-- ==== Sys2Proof/Word.lean ====
section
/-! DEFINITION. The value types of `00_scope.md` rules R8, R9 and R15: bytes and byte sequences. -/

namespace Sys2Proof

/-- A `Byte`, 0..255 (R8). -/
abbrev Byte := BitVec 8

/-- `Bytes`: a finite sequence of bytes, element 0 first on the wire (R8, R9, R43). -/
abbrev Bytes := List Byte

/-- `Str`: a byte string, that is a `Bytes` whose elements are character codes (R8, R15). -/
abbrev Str := Bytes

/-- A 32-bit pattern, the width of a frame's value field (R6 `VALUE_WIDTH`). -/
abbrev Word32 := BitVec 32

end Sys2Proof
end

