-- ==== Sys2Proof/Config.lean ====
section
/-! DEFINITION. The build-time parameters of `00_scope.md` rules R6 and R7. The OPEN ones are constants with no body:
nothing in Lean can evaluate them, so a claim over the model holds for every value the spec allows. The fixed ones
are simplification lemmas: a goal shows their values. -/

namespace Sys2Proof.Config

/-- `FRAME_LEN` (R6): a request or response frame has 9 bytes. -/
@[simp] abbrev frameLen : Nat := 9

/-- `IGNORE` (R6): the value of `bank_or_motor` when it is unused. -/
@[simp] abbrev ignoreField : Int := 0

/-- `GPVAR_BANK` (R6, R174). -/
@[simp] abbrev gpvarBank : Int := 2

/-- `GPVAR_MIN` (R6, R174). -/
@[simp] abbrev gpvarMin : Int := 0

/-- `GPVAR_MAX` (R6, R174), inclusive. -/
@[simp] abbrev gpvarMax : Int := 55

/-- `ASCII_CR` (R6, R15): carriage return. -/
@[simp] abbrev asciiCR : Byte := 0x0D#8

/-- `ASCII_WS` (R6, R15): the six whitespace bytes. -/
@[simp] abbrev asciiWS : Bytes := [0x20#8, 0x09#8, 0x0A#8, 0x0B#8, 0x0C#8, 0x0D#8]

/-- Byte 0x20, the space between the fields of a line (R15, R70). -/
@[simp] abbrev asciiSpace : Byte := 0x20#8

/-- Byte 0x2D, the minus sign (R15). -/
@[simp] abbrev asciiMinus : Byte := 0x2D#8

/-- `", "`: comma and space, the separator of the argument list (R70, `90_conflicts.md` C4). -/
@[simp] abbrev asciiSeparator : Str := [0x2C#8, 0x20#8]

/-- `"ABS"`, the one ASCII type the spec names (R6, R141). -/
@[simp] abbrev typeABS : Str := [0x41#8, 0x42#8, 0x53#8]

/-- 205, the stall detection threshold: the one axis parameter the spec names (R171 (a)). -/
@[simp] abbrev stallThreshold : Byte := 205#8

/-- 64, the EEPROM magic: the one named global parameter the spec numbers (R173 (a)). -/
@[simp] abbrev eepromMagic : Byte := 64#8

/-- OPEN (R171): which byte ids besides 205 are in `AXIS_PARAM_SET`. Ids outside 0..255 are excluded by R171 (c), so
every set that meets R171 (a) to (c) arises from one value of this constant, and every value gives such a set
(`Sys2Proof.Machine.inAxisParamSet`). Assumption log 5: DEDUCED, safe. -/
opaque axisParamExtra : Byte → Bool

/-- OPEN (R173): which ids of bank 0 besides 64 are in `GLOBAL_NAMED_SET` (`Sys2Proof.Machine.inGlobalNamedSet`).
Assumption log 6: DEDUCED, safe. -/
opaque globalNamedExtra : Byte → Bool

/-- OPEN (R141): which non-empty strings besides `"ABS"` are in `ASCII_TYPE_SET` (`Sys2Proof.Machine.inAsciiTypeSet`).
Assumption log 7: DEDUCED, safe. -/
opaque asciiTypeExtra : Str → Bool

/-- OPEN (R6, `92_eei_decisions.md` D36): the longest byte sequence a realisation accepts; `none` is no limit. The
model is unbounded: no operation reads this. Only `Instr.fits` is to be compared with it.
Assumption log 8: DESIGN CHOICE, unsafe for a realisation with a limit. -/
opaque maxSeqLen : Option Nat

/-- OPEN (R3, D1): the TMCL protocol version. No rule reads it. Assumption log 9: DESIGN CHOICE, safe. -/
opaque tmclProtocolVersion : Str

end Sys2Proof.Config
end

