-- ==== Sys2Proof/Syntax.lean ====
section
/-! DEFINITION. The operations of the block (`30_encoding.md` rules R60 and R61), one constructor per row of
`spec/opcode_table.json`, and the request that carries one: a selector byte and operands by value (R21). -/

namespace Sys2Proof

/-- The ten operations with their operands (R61). An absent optional `Str` is the empty string (R29). -/
inductive Instr where
  /-- CHECKSUM, 0x01 (R100). -/
  | checksum (bs : Bytes)
  /-- BIN_ENCODE, 0x02 (R110). -/
  | binEncode (moduleAddress commandId typeNumber bankOrMotor value : Int)
  /-- BIN_ENCODE_STRICT, 0x03 (R111). -/
  | binEncodeStrict (moduleAddress commandId typeNumber bankOrMotor value : Int)
  /-- BIN_DECODE, 0x04 (R112). -/
  | binDecode (bs : Bytes)
  /-- BIN_STATUS, 0x05 (R113). -/
  | binStatus (status : Byte)
  /-- ASCII_ENCODE, 0x06 (R140). -/
  | asciiEncode (address instruction type bank value : Str)
  /-- ASCII_DECODE, 0x07 (R143). -/
  | asciiDecode (line : Str)
  /-- VALIDATE_AXIS, 0x08 (R170). -/
  | validateAxis (id : Int)
  /-- VALIDATE_GLOBAL, 0x09 (R172). -/
  | validateGlobal (bank id : Int)
  /-- MAKE_GPVAR, 0x0A (R175). -/
  | makeGpvar (id : Int)
  deriving DecidableEq, Repr

/-- The operation names of R60, without operands. -/
inductive Opcode where
  | checksum | binEncode | binEncodeStrict | binDecode | binStatus
  | asciiEncode | asciiDecode | validateAxis | validateGlobal | makeGpvar
  deriving DecidableEq, Repr

/-- One operand by value (R61). A `Byte` operand is an integer in 0..255 and a `Str` is a `Bytes` (R8), so two forms
carry all of R61's types. Assumption log 3: DESIGN CHOICE, safe. -/
inductive Operand where
  | int (n : Int)
  | seq (bs : Bytes)
  deriving DecidableEq, Repr

/-- An operation request `{opsel : Byte, operands}` (R21, R60). -/
structure Request where
  opsel : Byte
  operands : List Operand
  deriving DecidableEq, Repr

end Sys2Proof
end

