-- ==== Sys2Proof/WellFormed.lean ====
section
/-! DEFINITION. What a well-formed request is (`30_encoding.md` rules R60 and R61): an assigned selector and operands
of the number and the types R61 lists. An `Instr` carries its operands in exactly those types, so every `Instr` is
well-formed; `Instr.fits` compares its sequences with a realisation's `MAX_SEQ_LEN` (R6). -/

namespace Sys2Proof

/-- The operand types of R61. -/
inductive OperandType where
  | byte
  | int
  | seq
  deriving DecidableEq, Repr

/-- Whether an operand is a value of a type; a `Byte` is an integer in 0..255 (R8). -/
def Operand.hasType : Operand → OperandType → Bool
  | .int n, .byte => decide (0 ≤ n ∧ n ≤ 255)
  | .int _, .int => true
  | .seq _, .seq => true
  | _, _ => false

/-- The operand types of the operation a selector byte names, in order (R60, R61); `none` for the reserved values 0x00
and 0x0B..0xFF (R62). -/
def signature (opsel : Byte) : Option (List OperandType) :=
  match opsel.toNat with
  | 0x01 => some [.seq]
  | 0x02 => some [.int, .int, .int, .int, .int]
  | 0x03 => some [.int, .int, .int, .int, .int]
  | 0x04 => some [.seq]
  | 0x05 => some [.byte]
  | 0x06 => some [.seq, .seq, .seq, .seq, .seq]
  | 0x07 => some [.seq]
  | 0x08 => some [.int]
  | 0x09 => some [.int, .int]
  | 0x0A => some [.int]
  | _ => none

/-- Whether a list of operands has the listed types, one for one. -/
def operandsMatch : List Operand → List OperandType → Bool
  | [], [] => true
  | o :: os, t :: ts => o.hasType t && operandsMatch os ts
  | _, _ => false

/-- A request of R61: an assigned selector, and operands that match its operation's types. -/
def Request.wellFormed (r : Request) : Bool :=
  match signature r.opsel with
  | none => false
  | some types => operandsMatch r.operands types

/-- The byte sequences and strings among an operation's operands. -/
def Instr.sequences : Instr → List Bytes
  | .checksum bs => [bs]
  | .binEncode _ _ _ _ _ => []
  | .binEncodeStrict _ _ _ _ _ => []
  | .binDecode bs => [bs]
  | .binStatus _ => []
  | .asciiEncode address instruction type bank value => [address, instruction, type, bank, value]
  | .asciiDecode line => [line]
  | .validateAxis _ => []
  | .validateGlobal _ _ => []
  | .makeGpvar _ => []

/-- Whether a realisation that accepts sequences of at most `limit` bytes accepts the operands (R6 `MAX_SEQ_LEN`, D36).
The model itself is unbounded; a claim carries over to such a realisation for the operations this accepts. -/
def Instr.fits (limit : Option Nat) (i : Instr) : Bool :=
  match limit with
  | none => true
  | some n => i.sequences.all fun bs => decide (bs.length ≤ n)

end Sys2Proof
end

