-- ==== Sys2Proof/Decode.lean ====
section
/-! DEFINITION. From requests to operations and back (`30_encoding.md` rules R60 to R62). Decoding is total: a request
is an operation or is rejected by name. The encoder below it is written from the same tables. -/

namespace Sys2Proof

/-- Why a request is no operation. -/
inductive Reject where
  /-- The selector is reserved: `UnsupportedOperation` with the selector as its info (R62, R202, R205). -/
  | unsupportedOperation (opsel : Byte)
  /-- The selector is assigned, but the operands are not of the number and types of R61
  (assumption log 3: DESIGN CHOICE, safe). -/
  | operandMismatch (opsel : Byte)
  deriving DecidableEq, Repr

/-- The operation a selector byte names; `none` for the reserved values 0x00 and 0x0B..0xFF (R60, R62). -/
def Opcode.ofSelector (opsel : Byte) : Option Opcode :=
  match opsel.toNat with
  | 0x01 => some .checksum
  | 0x02 => some .binEncode
  | 0x03 => some .binEncodeStrict
  | 0x04 => some .binDecode
  | 0x05 => some .binStatus
  | 0x06 => some .asciiEncode
  | 0x07 => some .asciiDecode
  | 0x08 => some .validateAxis
  | 0x09 => some .validateGlobal
  | 0x0A => some .makeGpvar
  | _ => none

/-- The operands of one operation, read in the order of R61. -/
def decodeOperands : Opcode → List Operand → Option Instr
  | .checksum, [.seq bs] => some (.checksum bs)
  | .binEncode, [.int a, .int c, .int t, .int m, .int v] => some (.binEncode a c t m v)
  | .binEncodeStrict, [.int a, .int c, .int t, .int m, .int v] => some (.binEncodeStrict a c t m v)
  | .binDecode, [.seq bs] => some (.binDecode bs)
  | .binStatus, [.int n] => if 0 ≤ n ∧ n ≤ 255 then some (.binStatus (BitVec.ofInt 8 n)) else none
  | .asciiEncode, [.seq a, .seq i, .seq t, .seq b, .seq v] => some (.asciiEncode a i t b v)
  | .asciiDecode, [.seq line] => some (.asciiDecode line)
  | .validateAxis, [.int id] => some (.validateAxis id)
  | .validateGlobal, [.int bank, .int id] => some (.validateGlobal bank id)
  | .makeGpvar, [.int id] => some (.makeGpvar id)
  | _, _ => none

/-- Decoding a request. The selector is looked at first, and a reserved one is never decoded further (R203). -/
def decode (r : Request) : Except Reject Instr :=
  match Opcode.ofSelector r.opsel with
  | none => .error (.unsupportedOperation r.opsel)
  | some op =>
    match decodeOperands op r.operands with
    | none => .error (.operandMismatch r.opsel)
    | some i => .ok i

/-- The selector byte of an operation (R60). -/
def Opcode.selector : Opcode → Byte
  | .checksum => 0x01#8
  | .binEncode => 0x02#8
  | .binEncodeStrict => 0x03#8
  | .binDecode => 0x04#8
  | .binStatus => 0x05#8
  | .asciiEncode => 0x06#8
  | .asciiDecode => 0x07#8
  | .validateAxis => 0x08#8
  | .validateGlobal => 0x09#8
  | .makeGpvar => 0x0A#8

/-- The request that carries an operation: its selector and its operands in the order of R61. -/
def encode : Instr → Request
  | .checksum bs => ⟨Opcode.checksum.selector, [.seq bs]⟩
  | .binEncode a c t m v => ⟨Opcode.binEncode.selector, [.int a, .int c, .int t, .int m, .int v]⟩
  | .binEncodeStrict a c t m v => ⟨Opcode.binEncodeStrict.selector, [.int a, .int c, .int t, .int m, .int v]⟩
  | .binDecode bs => ⟨Opcode.binDecode.selector, [.seq bs]⟩
  | .binStatus s => ⟨Opcode.binStatus.selector, [.int s.toNat]⟩
  | .asciiEncode a i t b v => ⟨Opcode.asciiEncode.selector, [.seq a, .seq i, .seq t, .seq b, .seq v]⟩
  | .asciiDecode line => ⟨Opcode.asciiDecode.selector, [.seq line]⟩
  | .validateAxis id => ⟨Opcode.validateAxis.selector, [.int id]⟩
  | .validateGlobal bank id => ⟨Opcode.validateGlobal.selector, [.int bank, .int id]⟩
  | .makeGpvar id => ⟨Opcode.makeGpvar.selector, [.int id]⟩

/-- The operands of an operation whose bits are all zero: the integer 0 or the empty sequence for each of R61. -/
def Opcode.zeroOperands : Opcode → List Operand
  | .checksum => [.seq []]
  | .binEncode => [.int 0, .int 0, .int 0, .int 0, .int 0]
  | .binEncodeStrict => [.int 0, .int 0, .int 0, .int 0, .int 0]
  | .binDecode => [.seq []]
  | .binStatus => [.int 0]
  | .asciiEncode => [.seq [], .seq [], .seq [], .seq [], .seq []]
  | .asciiDecode => [.seq []]
  | .validateAxis => [.int 0]
  | .validateGlobal => [.int 0, .int 0]
  | .makeGpvar => [.int 0]

/-- The request whose first `nbits` bits are those of `w`, as `spec/opcode_table.json` numbers them: bits 7..0 are the
selector byte, and the operands, to which the table gives no bits, are all zero. Bits of `w` above the selector are no
bits of the table's encoding: they are handed on as a surplus operand, which the decoder refuses. -/
def tableRequest (nbits w : Nat) : Request :=
  let x := w % 2 ^ nbits
  let opsel := BitVec.ofNat 8 x
  let zeros := match Opcode.ofSelector opsel with
    | none => []
    | some op => op.zeroOperands
  ⟨opsel, if x < 256 then zeros else zeros ++ [.int (x / 256 : Nat)]⟩

/-- What the decoder reads from the table word `w` of `nbits` bits. -/
def decodeTableWord (nbits w : Nat) : Option Instr :=
  match decode (tableRequest nbits w) with
  | .ok i => some i
  | .error _ => none

end Sys2Proof
end

