-- ==== Sys2Proof/Machine/State.lean ====
section
/-! DEFINITION. The result types of the operations (`10_state.md` section 2, `60_exceptions.md` section 1) and the state
of the operation interface. The block itself keeps no state (R20): what stands here is the interface's input side (the
requests issued to the block) and its output side (the result latch of R22). -/

namespace Sys2Proof.Machine

/-- `StatusName` (R27): the eight members of `Status` (R26) and `Unknown`. -/
inductive StatusName where
  | success
  | commandLoaded
  | checksumWrong
  | commandInvalid
  | typeWrong
  | valueInvalid
  | eepromLocked
  | commandUnavailable
  | unknown
  deriving DecidableEq, Repr

/-- `BinaryResponse` (R25), the payload of BIN_DECODE, fields in frame order and then the two derived fields.
`value` is an `Int32`: BIN_DECODE only forms values in -2^31..2^31-1 (R66). -/
structure BinaryResponse where
  replyAddress : Byte
  moduleAddress : Byte
  status : Byte
  commandId : Byte
  value : Int
  checksum : Byte
  statusName : StatusName
  isSuccessful : Bool
  deriving DecidableEq, Repr

/-- `AsciiResponse` (R30), the payload of ASCII_DECODE: four strings and the two integers derived from them (R144). -/
structure AsciiResponse where
  host : Str
  client : Str
  status : Str
  value : Str
  statusInt : Int
  valueInt : Int
  deriving DecidableEq, Repr

/-- The payload of a successful operation (R61). -/
inductive Payload where
  /-- CHECKSUM. -/
  | byte (b : Byte)
  /-- BIN_ENCODE and BIN_ENCODE_STRICT: a request frame. -/
  | frame (bs : Bytes)
  /-- BIN_DECODE. -/
  | response (r : BinaryResponse)
  /-- BIN_STATUS: status_name and is_successful. -/
  | status (name : StatusName) (isSuccessful : Bool)
  /-- ASCII_ENCODE: a request line. -/
  | line (s : Str)
  /-- ASCII_DECODE. -/
  | asciiResponse (r : AsciiResponse)
  /-- VALIDATE_AXIS and VALIDATE_GLOBAL. -/
  | bool (b : Bool)
  /-- MAKE_GPVAR: a (bank, id) pair. -/
  | gpvar (bank id : Byte)
  deriving DecidableEq, Repr

/-- The error taxonomy of R200, each with the info of R202. -/
inductive BlockError where
  /-- Code 1, MAKE_GPVAR: the rejected id. -/
  | invalidParameter (id : Int)
  /-- Code 2, BIN_DECODE: the length received. -/
  | malformedFrame (length : Nat)
  /-- Code 3, ASCII_DECODE: no info. -/
  | malformedResponse
  /-- Code 4, BIN_DECODE. -/
  | checksumMismatch (expected received : Byte)
  /-- Code 5: reported by the transport, never by the block (R204; assumption log 14: DESIGN CHOICE, safe). -/
  | transportTimeout
  /-- Code 6: reported by the transport, never by the block (R204). -/
  | transportIO
  /-- Code 7, ASCII_ENCODE: the rejected type. -/
  | unsupportedType (type : Str)
  /-- Code 8, BIN_ENCODE_STRICT: index 0..4 of the first failing field. -/
  | fieldOutOfRange (index : Fin 5)
  /-- Code 9: the reserved selector. As an outcome of a step it is the refusal of the same name (R205, R213). -/
  | unsupportedOperation (opsel : Byte)
  deriving DecidableEq, Repr

/-- A result: `Ok(payload)` or `Err(code, info)` (R11). -/
inductive Result where
  | ok (p : Payload)
  | err (e : BlockError)
  deriving DecidableEq, Repr

/-- Reasons a step or an interface read stops with a fault. -/
inductive Fault where
  /-- Raised by `State.readLatch` when the result latch has no value, that is before the first operation after reset
  (R22, R213). Safe: it stops where the hardware might show a value. No operation of the block raises it. -/
  | latchHasNoValue
  deriving DecidableEq, Repr

/-- Reasons a request is given no meaning. -/
inductive Refusal where
  /-- Raised only by an arm of `exec` whose operation has no meaning yet; there is none. Safe. -/
  | notModelled (mnemonic : String)
  /-- Raised by `step` on a reserved selector: `Err(UnsupportedOperation, opsel)`, which R205 and R213 have a model
  represent as a refusal. Safe (R205: it errs toward unprovable). -/
  | unsupportedOperation (opsel : Byte)
  /-- Raised by `step` on an assigned selector whose operands are not those of R61: no request of the interface
  (assumption log 3: DESIGN CHOICE, safe). Safe. -/
  | operandMismatch (opsel : Byte)
  deriving DecidableEq, Repr

/-- The state of the operation interface. The block has no other (R20, R23, R40). -/
structure State where
  /-- The requests the host has issued and the block has not answered, in issue order (R21, R50;
  assumption log 1: DESIGN CHOICE, the list safe, the reset value unsafe). -/
  requests : List Request
  /-- The result latch: the last result, or no value before the first operation after reset (R22, R35). -/
  latch : Option Result
  deriving DecidableEq, Repr

/-- Right after reset (R35, R220): the latch holds no value. That no request stands at the interface is a DESIGN CHOICE
(assumption log 1: DESIGN CHOICE, the list safe, the reset value unsafe). -/
def State.reset : State := { requests := [], latch := none }

end Sys2Proof.Machine
end

