-- ==== Sys2Proof/Machine/Ops.lean ====
section
/-! DEFINITION. The named operations over the interface's state: issuing and fetching a request, answering it (with a
payload or with an error), reading the latch, reset; and the byte-level operations shared by the units: the checksum of
rule R100 and the byte order of rules R65 and R66. -/

namespace Sys2Proof.Machine

/-- A result goes to the latch (R11, R22; assumption log 11: DESIGN CHOICE, safe). -/
def State.answer (s : State) (r : Result) : State := { s with latch := some r }

/-- `return p` (R11). -/
def State.complete (s : State) (p : Payload) : State := s.answer (.ok p)

/-- `raise e` (R11, R201): an error is a result. Nothing is saved, no mode changes, nothing is jumped to (R201), and
there is no return from it (R207). -/
def State.raise (s : State) (e : BlockError) : State := s.answer (.err e)

/-- The one way an operation ends: its result, a payload or an error, in the latch, everything else as it was. -/
def State.finish (s : State) : Result → State
  | .ok p => s.complete p
  | .err e => s.raise e

/-- The host issues one more request; it is answered after those already issued (R50). -/
def State.issue (s : State) (r : Request) : State := { s with requests := s.requests ++ [r] }

/-- The block takes the oldest request from the interface; `none` when the host has issued none. -/
def State.fetch (s : State) : Option (Request × State) :=
  match s.requests with
  | [] => none
  | r :: rest => some (r, { s with requests := rest })

/-- The host reads the result latch; a read of a latch with no value is a fault (R22, R213). -/
def State.readLatch (s : State) : Host.Outcome Result Fault Refusal :=
  match s.latch with
  | none => .fault .latchHasNoValue
  | some r => .next r

/-- Reset between two steps (R220): the latch loses its value and the waiting requests get no result
(assumption log 11: DESIGN CHOICE, unsafe where a host issues them again by itself). -/
def State.applyReset (_ : State) : State := State.reset

/-- The refusal a rejected request ends in (R205; assumption logs 3 and 10: DESIGN CHOICE and DEDUCED, safe). -/
def refusalOf : Reject → Refusal
  | .unsupportedOperation opsel => .unsupportedOperation opsel
  | .operandMismatch opsel => .operandMismatch opsel

/-- The numeric code of an error (R200). -/
def BlockError.code : BlockError → Nat
  | .invalidParameter _ => 1
  | .malformedFrame _ => 2
  | .malformedResponse => 3
  | .checksumMismatch _ _ => 4
  | .transportTimeout => 5
  | .transportIO => 6
  | .unsupportedType _ => 7
  | .fieldOutOfRange _ => 8
  | .unsupportedOperation _ => 9

/-- The numeric code of a result: 0 when the operation succeeded (R200). -/
def Result.code : Result → Nat
  | .ok _ => 0
  | .err e => e.code

/-- CHECKSUM of R100: the unbounded sum of the bytes, modulo 256. One function for both directions (R101). -/
def checksum (bs : Bytes) : Byte :=
  BitVec.ofNat 8 (bs.foldl (fun s b => s + b.toNat) 0 % 256)

/-- The four bytes of a 32-bit pattern, most significant first (R42, R65). -/
def wordBytes (u : Word32) : Bytes :=
  [u.extractLsb' 24 8, u.extractLsb' 16 8, u.extractLsb' 8 8, u.extractLsb' 0 8]

/-- The 32-bit pattern of four bytes, most significant first (R44, R66). -/
def wordOfBytes (b4 b5 b6 b7 : Byte) : Word32 :=
  BitVec.ofNat 32 (((b4.toNat <<< 24 ||| b5.toNat <<< 16) ||| b6.toNat <<< 8) ||| b7.toNat)

/-- `sext_32` (R10): a 32-bit pattern as a signed integer. -/
def sext32 (u : Word32) : Int :=
  if u.toNat < 2 ^ 31 then u.toNat else (u.toNat : Int) - 2 ^ 32

end Sys2Proof.Machine
end

