-- ==== Sys2Proof/Machine/Operands.lean ====
section
/-! DEFINITION. The forms an operand is read in: a field masked to its width or checked against it (R24, R110, R111),
the byte classes of R15, the digit runs and decimal values of R143 and R144, the joined argument list of R9 and R70, and
membership in the parameter sets of R141, R171 and R173. -/

namespace Sys2Proof.Machine

/-- `x mod 256` (R10, R110): a field masked to 8 bits. -/
def maskByte (x : Int) : Byte := BitVec.ofNat 8 (x % 256).toNat

/-- `x mod 2^32` (R10, R110): the value masked to 32 bits. -/
def maskWord (x : Int) : Word32 := BitVec.ofNat 32 (x % 2 ^ 32).toNat

/-- Whether a field is in its declared `u8` (R111). -/
def inU8 (x : Int) : Bool := decide (0 ≤ x ∧ x ≤ 255)

/-- Whether a value is in its declared `i32` (R111). -/
def inI32 (x : Int) : Bool := decide (-2 ^ 31 ≤ x ∧ x ≤ 2 ^ 31 - 1)

/-- The index, in frame order, of the first field outside its declared width (R111, R203). -/
def firstOutOfRange (a c t m v : Int) : Option (Fin 5) :=
  if !inU8 a then some 0
  else if !inU8 c then some 1
  else if !inU8 t then some 2
  else if !inU8 m then some 3
  else if !inI32 v then some 4
  else none

/-- LETTER (R15). -/
def isLetter (b : Byte) : Bool :=
  decide (0x41 ≤ b.toNat ∧ b.toNat ≤ 0x5A) || decide (0x61 ≤ b.toNat ∧ b.toNat ≤ 0x7A)

/-- DIGIT (R15). -/
def isDigit (b : Byte) : Bool := decide (0x30 ≤ b.toNat ∧ b.toNat ≤ 0x39)

/-- WS: one byte of `ASCII_WS` (R6, R15). -/
def isWS (b : Byte) : Bool := Config.asciiWS.contains b

/-- The digits a string starts with, as many as there are (R143 `digits(i)`). -/
def digitRun (l : Str) : Str := l.takeWhile isDigit

/-- What follows the digits a string starts with (R143). -/
def afterDigits (l : Str) : Str := l.dropWhile isDigit

/-- `decimal(s)`: the base-10 value of a digit string (R144). -/
def decimal (l : Str) : Nat := l.foldl (fun n b => 10 * n + (b.toNat - 0x30)) 0

/-- A trailing string R143 accepts after the value: nothing, or one CR. -/
def isTrailer : Str → Bool
  | [] => true
  | [b] => b == Config.asciiCR
  | _ :: _ :: _ => false

/-- `join(sep, parts)` (R9). -/
def joinWith (sep : Str) : List Str → Str
  | [] => []
  | [p] => p
  | p :: q :: ps => p ++ sep ++ joinWith sep (q :: ps)

/-- `filter(non_empty, parts)` (R9, R70, R140). -/
def nonEmptyParts (parts : List Str) : List Str := parts.filter fun p => !p.isEmpty

/-- Whether an integer is a byte, and then whether the byte is in a table. -/
def byteInTable (table : Byte → Bool) (id : Int) : Bool := inU8 id && table (maskByte id)

/-- `id ∈ AXIS_PARAM_SET` (R171): 205 and any further byte ids; nothing outside 0..255, so not 999. -/
def inAxisParamSet (id : Int) : Bool :=
  byteInTable (fun b => b == Config.stallThreshold || Config.axisParamExtra b) id

/-- `(bank, id) ∈ GLOBAL_NAMED_SET` (R173): bank 0 only, 64 and any further byte ids. -/
def inGlobalNamedSet (bank id : Int) : Bool :=
  decide (bank = 0) && byteInTable (fun b => b == Config.eepromMagic || Config.globalNamedExtra b) id

/-- The general-purpose-variable range: `GPVAR_MIN <= id <= GPVAR_MAX` (R174). -/
def inGpvarRange (id : Int) : Bool := decide (Config.gpvarMin ≤ id ∧ id ≤ Config.gpvarMax)

/-- `type ∈ ASCII_TYPE_SET` (R6, R141): a set of non-empty strings that has `"ABS"`. -/
def inAsciiTypeSet (type : Str) : Bool :=
  !type.isEmpty && (type == Config.typeABS || Config.asciiTypeExtra type)

end Sys2Proof.Machine
end

