-- ==== Sys2Proof/Machine/Flags.lean ====
section
/-! DEFINITION. The two derived flags of the block (`10_state.md` rules R26 to R28). They are computed from a status
byte and stored nowhere. -/

namespace Sys2Proof.Machine

/-- `classify` (R26, R27). -/
def classify (s : Byte) : StatusName :=
  match s.toNat with
  | 100 => .success
  | 101 => .commandLoaded
  | 1 => .checksumWrong
  | 2 => .commandInvalid
  | 3 => .typeWrong
  | 4 => .valueInvalid
  | 5 => .eepromLocked
  | 6 => .commandUnavailable
  | _ => .unknown

/-- `is_successful` (R28). -/
def isSuccessful (s : Byte) : Bool := s == 100#8 || s == 101#8

end Sys2Proof.Machine
end

