-- ==== Sys2Proof/Machine/Ascii.lean ====
section
/-! DEFINITION. The ASCII Message Codec (`42_ascii_codec.md`). -/

namespace Sys2Proof.Machine

/-- The request line of R70, R140 and R142. -/
def requestLine (address instruction type bank value : Str) : Str :=
  address ++ [Config.asciiSpace] ++ instruction ++ [Config.asciiSpace] ++
    joinWith Config.asciiSeparator (nonEmptyParts [type, bank, value]) ++ [Config.asciiCR]

/-- The result of ASCII_ENCODE (R140, R141): the type is checked before any output is formed. -/
def encodeLine (address instruction type bank value : Str) : Result :=
  if type.isEmpty || inAsciiTypeSet type then .ok (.line (requestLine address instruction type bank value))
  else .err (.unsupportedType type)

/-- The value part of a response line (R143): an optional minus, the digits after it, and what follows them. -/
def splitValue : Str → Bool × Str × Str
  | [] => (false, [], [])
  | b :: l =>
    if b = Config.asciiMinus then (true, digitRun l, afterDigits l)
    else (false, digitRun (b :: l), afterDigits (b :: l))

/-- The value part matched (R143, R144), given the fields before it. -/
def matchValue (host client : Byte) (status l : Str) : Option AsciiResponse :=
  match splitValue l with
  | (negative, digits, trailer) =>
    if !digits.isEmpty && isTrailer trailer then
      some
        { host := [host]
          client := [client]
          status := status
          value := if negative then Config.asciiMinus :: digits else digits
          statusInt := decimal status
          valueInt := if negative then -(decimal digits : Int) else decimal digits }
    else none

/-- The status part matched (R143): one to three digits and one whitespace byte, then the value part. -/
def matchStatus (host client : Byte) (l : Str) : Option AsciiResponse :=
  if 1 ≤ (digitRun l).length ∧ (digitRun l).length ≤ 3 then
    match afterDigits l with
    | [] => none
    | w :: rest => if isWS w then matchValue host client (digitRun l) rest else none
  else none

/-- A response line matched from its first byte (R71, R143). -/
def matchLine : Str → Option AsciiResponse
  | host :: w1 :: client :: w2 :: rest =>
    if isLetter host && isWS w1 && isLetter client && isWS w2 then matchStatus host client rest else none
  | _ => none

/-- The result of ASCII_DECODE (R143). -/
def decodeLine (line : Str) : Result :=
  match matchLine line with
  | some r => .ok (.asciiResponse r)
  | none => .err .malformedResponse

/-- ASCII_ENCODE (R140). -/
def execAsciiEncode (address instruction type bank value : Str) (s : State) : Host.Outcome State Fault Refusal :=
  .next (s.finish (encodeLine address instruction type bank value))

/-- ASCII_DECODE (R143). -/
def execAsciiDecode (line : Str) (s : State) : Host.Outcome State Fault Refusal :=
  .next (s.finish (decodeLine line))

end Sys2Proof.Machine
end

