-- ==== Sys2Proof/Machine/Binary.lean ====
section
/-! DEFINITION. The Binary Message Codec (`41_binary_codec.md`). -/

namespace Sys2Proof.Machine

/-- The request frame of R63 and R110, every field masked to its width. -/
def requestFrame (a c t m v : Int) : Bytes :=
  let hdr := [maskByte a, maskByte c, maskByte t, maskByte m] ++ wordBytes (maskWord v)
  hdr ++ [checksum hdr]

/-- The result of BIN_ENCODE_STRICT (R111): every field in its declared width, or the index of the first that is not. -/
def strictResult (a c t m v : Int) : Result :=
  match firstOutOfRange a c t m v with
  | some i => .err (.fieldOutOfRange i)
  | none => .ok (.frame (requestFrame a c t m v))

/-- The response record of R64 and R112, once the frame has passed its checks. -/
def responseOf (b0 b1 b2 b3 b4 b5 b6 b7 b8 : Byte) : BinaryResponse :=
  { replyAddress := b0
    moduleAddress := b1
    status := b2
    commandId := b3
    value := sext32 (wordOfBytes b4 b5 b6 b7)
    checksum := b8
    statusName := classify b2
    isSuccessful := isSuccessful b2 }

/-- The result of BIN_DECODE (R112): the length is checked first, then the checksum (R203). -/
def decodeFrame : Bytes → Result
  | [b0, b1, b2, b3, b4, b5, b6, b7, b8] =>
    if b8 = checksum [b0, b1, b2, b3, b4, b5, b6, b7] then .ok (.response (responseOf b0 b1 b2 b3 b4 b5 b6 b7 b8))
    else .err (.checksumMismatch (checksum [b0, b1, b2, b3, b4, b5, b6, b7]) b8)
  | bs => .err (.malformedFrame bs.length)

/-- BIN_ENCODE (R110). It has no error. -/
def execBinEncode (a c t m v : Int) (s : State) : Host.Outcome State Fault Refusal :=
  .next (s.finish (.ok (.frame (requestFrame a c t m v))))

/-- BIN_ENCODE_STRICT (R111). -/
def execBinEncodeStrict (a c t m v : Int) (s : State) : Host.Outcome State Fault Refusal :=
  .next (s.finish (strictResult a c t m v))

/-- BIN_DECODE (R112). -/
def execBinDecode (bs : Bytes) (s : State) : Host.Outcome State Fault Refusal :=
  .next (s.finish (decodeFrame bs))

/-- BIN_STATUS (R113). It has no error. -/
def execBinStatus (status : Byte) (s : State) : Host.Outcome State Fault Refusal :=
  .next (s.finish (.ok (.status (classify status) (isSuccessful status))))

end Sys2Proof.Machine
end

