-- ==== Sys2Proof/Machine/Checksum.lean ====
section
/-! DEFINITION. The Checksum Unit (`40_checksum.md`). -/

namespace Sys2Proof.Machine

/-- CHECKSUM (R100). It has no error. -/
def execChecksum (bs : Bytes) (s : State) : Host.Outcome State Fault Refusal :=
  .next (s.finish (.ok (.byte (checksum bs))))

end Sys2Proof.Machine
end

