-- ==== Sys2Proof/Machine/Parameters.lean ====
section
/-! DEFINITION. The Parameter Address Table (`43_parameter_table.md`). -/

namespace Sys2Proof.Machine

/-- Whether a (bank, id) pair is a valid global parameter, by either path (R32, R172). -/
def isGlobalParam (bank id : Int) : Bool :=
  inGlobalNamedSet bank id || (decide (bank = Config.gpvarBank) && inGpvarRange id)

/-- The result of MAKE_GPVAR (R175). -/
def gpvarResult (id : Int) : Result :=
  if inGpvarRange id then .ok (.gpvar (maskByte Config.gpvarBank) (maskByte id)) else .err (.invalidParameter id)

/-- VALIDATE_AXIS (R170). It has no error. -/
def execValidateAxis (id : Int) (s : State) : Host.Outcome State Fault Refusal :=
  .next (s.finish (.ok (.bool (inAxisParamSet id))))

/-- VALIDATE_GLOBAL (R172). It has no error. -/
def execValidateGlobal (bank id : Int) (s : State) : Host.Outcome State Fault Refusal :=
  .next (s.finish (.ok (.bool (isGlobalParam bank id))))

/-- MAKE_GPVAR (R175). -/
def execMakeGpvar (id : Int) (s : State) : Host.Outcome State Fault Refusal :=
  .next (s.finish (gpvarResult id))

end Sys2Proof.Machine
end

