-- ==== Sys2Proof/Machine/Dispatch.lean ====
section
/-! DEFINITION. One arm per operation: each calls its meaning. -/

namespace Sys2Proof.Machine

def exec (i : Instr) (s : State) : Host.Outcome State Fault Refusal :=
  match i with
  | .checksum bs => Sys2Proof.Machine.execChecksum bs s
  | .binEncode a c t m v => Sys2Proof.Machine.execBinEncode a c t m v s
  | .binEncodeStrict a c t m v => Sys2Proof.Machine.execBinEncodeStrict a c t m v s
  | .binDecode bs => Sys2Proof.Machine.execBinDecode bs s
  | .binStatus status => Sys2Proof.Machine.execBinStatus status s
  | .asciiEncode address instruction type bank value => Sys2Proof.Machine.execAsciiEncode address instruction type bank value s
  | .asciiDecode line => Sys2Proof.Machine.execAsciiDecode line s
  | .validateAxis id => Sys2Proof.Machine.execValidateAxis id s
  | .validateGlobal bank id => Sys2Proof.Machine.execValidateGlobal bank id s
  | .makeGpvar id => Sys2Proof.Machine.execMakeGpvar id s

end Sys2Proof.Machine
end

