-- ==== Sys2Proof/Machine/Step.lean ====
section
/-! DEFINITION. One step of the block (`10_state.md` rule R21): it takes the oldest request from the interface, decodes
it and answers it, atomically. -/

namespace Sys2Proof.Machine

/-- One step. A request is taken and answered by its operation's meaning; one that is no operation is refused by name
(R62, R205). With no request the block waits and nothing changes (R206; assumption log 2: DESIGN CHOICE, safe). -/
def step (s : State) : Host.Outcome State Fault Refusal :=
  match s.fetch with
  | none => .next s
  | some (r, s') =>
    match decode r with
    | .ok i => exec i s'
    | .error e => .refused (refusalOf e)

/-- `s` with the request of the table word `w` (`tableRequest`) standing first at the interface, so that the very next
step answers it (assumption log 4: DESIGN CHOICE, safe). -/
def State.withFetchWord (s : State) (nbits w : Nat) : State :=
  { s with requests := tableRequest nbits w :: s.requests }

end Sys2Proof.Machine
end

