-- ==== Sys2Proof/Machine/Program.lean ====
section
/-! DEFINITION. The host above the block: host programs, their statements, pseudo-operations and end states
(`30_encoding.md` rules R75 and R76, `70_reset_and_hazards.md` rule R231). The statement index and the variable bindings
are the host's, not the block's (R23); the block appears only through `State.issue`, `step` and `State.readLatch`.
Programs are abstract syntax, not text (assumption log 12: DESIGN CHOICE, safe). -/

namespace Sys2Proof.Machine

/-- A host variable's name or a label, as the characters it is written with. -/
abbrev HostName := Str

/-- A field of a bound record, `$name.field` (R75; the fields of R25, R30, R113 and R175). -/
inductive PayloadField where
  | replyAddress | moduleAddress | status | commandId | value | checksum | statusName | isSuccessful
  | host | client | statusInt | valueInt | bank | id
  deriving DecidableEq, Repr

/-- `$name` or `$name.field` (R75). -/
structure VarRef where
  name : HostName
  field : Option PayloadField
  deriving DecidableEq, Repr

/-- An operand of a statement: a literal, or a value an earlier line bound (R75). -/
inductive Arg where
  | lit (o : Operand)
  | ref (v : VarRef)
  deriving DecidableEq, Repr

/-- The statements of R75 after expansion: a block operation with an optional `-> name`, and the host's own. -/
inductive HostStmt where
  | operation (op : Opcode) (args : List Arg) (bind : Option HostName)
  | brt (v : VarRef) (target : HostName)
  | brf (v : VarRef) (target : HostName)
  | jmp (target : HostName)
  | recv (name : HostName) (bs : Bytes)
  | halt
  deriving DecidableEq, Repr

/-- A statement as written: one of R75, or a pseudo-operation of R76. -/
inductive SourceStmt where
  | plain (st : HostStmt)
  | xchgB (addr cmd type bank value : Arg) (resp : Bytes) (name : HostName)
  | xchgA (addr instr type bank value : Arg) (resp : Str) (name : HostName)
  deriving DecidableEq, Repr

/-- A line `[label:] statement`. -/
structure HostLine (α : Type) where
  label : Option HostName
  stmt : α
  deriving DecidableEq, Repr

/-- `name.req`, the request variable of a pseudo-operation (R76). -/
def reqName (name : HostName) : HostName := name ++ [0x2E#8, 0x72#8, 0x65#8, 0x71#8]

/-- `name.raw`, the received variable of a pseudo-operation (R76). -/
def rawName (name : HostName) : HostName := name ++ [0x2E#8, 0x72#8, 0x61#8, 0x77#8]

/-- One exchange of R76: encode, receive, decode. -/
def exchange (enc dec : Opcode) (args : List Arg) (resp : Bytes) (name : HostName) : List HostStmt :=
  [ .operation enc args (some (reqName name)),
    .recv (rawName name) resp,
    .operation dec [.ref ⟨rawName name, none⟩] (some name) ]

/-- What a written statement expands to (R76). -/
def SourceStmt.expand : SourceStmt → List HostStmt
  | .plain st => [st]
  | .xchgB addr cmd type bank value resp name =>
    exchange .binEncode .binDecode [addr, cmd, type, bank, value] resp name
  | .xchgA addr instr type bank value resp name =>
    exchange .asciiEncode .asciiDecode [addr, instr, type, bank, value] resp name

/-- A program with its pseudo-operations expanded; a label stands on the first statement of its line's expansion, and
statement indexes count the expanded statements (R76, `95_test_vectors.md` L3). -/
def expandProgram : List (HostLine SourceStmt) → List (HostLine HostStmt)
  | [] => []
  | l :: ls =>
    (match l.stmt.expand with
      | [] => []
      | st :: sts => ⟨l.label, st⟩ :: sts.map fun x => ⟨none, x⟩) ++ expandProgram ls

/-- What a host variable is bound to: the payload of an `Ok` result, or the bytes the transport delivered (R75). -/
inductive HostValue where
  | payload (p : Payload)
  | received (bs : Bytes)
  deriving DecidableEq, Repr

/-- A bound value, or a field of it, as an operand. A status name is none: no operation takes one (R61). -/
def HostValue.operand : HostValue → Option PayloadField → Option Operand
  | .received bs, none => some (.seq bs)
  | .payload (.byte b), none => some (.int b.toNat)
  | .payload (.frame bs), none => some (.seq bs)
  | .payload (.line bs), none => some (.seq bs)
  | .payload (.response r), some .replyAddress => some (.int r.replyAddress.toNat)
  | .payload (.response r), some .moduleAddress => some (.int r.moduleAddress.toNat)
  | .payload (.response r), some .status => some (.int r.status.toNat)
  | .payload (.response r), some .commandId => some (.int r.commandId.toNat)
  | .payload (.response r), some .value => some (.int r.value)
  | .payload (.response r), some .checksum => some (.int r.checksum.toNat)
  | .payload (.asciiResponse r), some .host => some (.seq r.host)
  | .payload (.asciiResponse r), some .client => some (.seq r.client)
  | .payload (.asciiResponse r), some .status => some (.seq r.status)
  | .payload (.asciiResponse r), some .value => some (.seq r.value)
  | .payload (.asciiResponse r), some .statusInt => some (.int r.statusInt)
  | .payload (.asciiResponse r), some .valueInt => some (.int r.valueInt)
  | .payload (.gpvar bank _), some .bank => some (.int bank.toNat)
  | .payload (.gpvar _ id), some .id => some (.int id.toNat)
  | _, _ => none

/-- A bound value, or a field of it, as the Bool a branch tests (R75). -/
def HostValue.bool : HostValue → Option PayloadField → Option Bool
  | .payload (.bool b), none => some b
  | .payload (.response r), some .isSuccessful => some r.isSuccessful
  | .payload (.status _ b), some .isSuccessful => some b
  | _, _ => none

/-- The host's state: the statement index, the bindings (oldest first, one per name) and the block. -/
structure HostState where
  index : Nat
  vars : List (HostName × HostValue)
  block : State
  deriving DecidableEq, Repr

/-- The start state of a program (R75, `95_test_vectors.md` L3): index 0, no variable bound, the block as after reset. -/
def HostState.start : HostState := { index := 0, vars := [], block := State.reset }

/-- How a program has ended (R75, R231). -/
inductive EndStatus where
  | done
  | stopped (e : BlockError) (index : Nat)
  deriving DecidableEq, Repr

/-- A host step the spec does not describe (assumption log 12: DESIGN CHOICE, safe). Safe: the model stops. -/
inductive Undescribed where
  /-- The index is past the last statement. -/
  | pastTheEnd
  /-- A name is used that no earlier line bound, or a field its value does not have. -/
  | noSuchValue
  /-- A branch names no label of the program. -/
  | noSuchLabel
  /-- The operation's operands are not those of R61. -/
  | operandMismatch
  deriving DecidableEq, Repr

/-- The outcome of one host statement. -/
inductive HostOutcome where
  | running (h : HostState)
  | ended (status : EndStatus) (vars : List (HostName × HostValue))
  | undescribed (why : Undescribed)
  deriving DecidableEq, Repr

/-- What a name is bound to. -/
def lookupVar (vars : List (HostName × HostValue)) (name : HostName) : Option HostValue :=
  (vars.find? fun p => p.1 == name).map (·.2)

/-- Binding a name; a name bound before takes the new value. -/
def bindVar (vars : List (HostName × HostValue)) (name : HostName) (v : HostValue) : List (HostName × HostValue) :=
  vars.filter (fun p => !(p.1 == name)) ++ [(name, v)]

/-- An operand of a statement as an operand of a request. -/
def Arg.resolve (vars : List (HostName × HostValue)) : Arg → Option Operand
  | .lit o => some o
  | .ref v => (lookupVar vars v.name).bind fun x => x.operand v.field

/-- The Bool a branch tests. -/
def VarRef.bool (vars : List (HostName × HostValue)) (v : VarRef) : Option Bool :=
  (lookupVar vars v.name).bind fun x => x.bool v.field

/-- The index of the statement with a label: R75 sends a taken branch to "the label's index". Two lines with the same
label are a case it leaves open, and the model takes the first of them (assumption log 12: DESIGN CHOICE, unsafe for a
program that repeats a label). -/
def labelIndex (prog : List (HostLine HostStmt)) (target : HostName) : Option Nat :=
  prog.findIdx? fun l => l.label == some target

/-- The next statement. -/
def HostState.advance (h : HostState) : HostState := { h with index := h.index + 1 }

/-- A taken branch (R75). -/
def branchTo (prog : List (HostLine HostStmt)) (target : HostName) (h : HostState) : HostOutcome :=
  match labelIndex prog target with
  | none => .undescribed .noSuchLabel
  | some n => .running { h with index := n }

/-- One block operation of a program (R75): the request is issued, the block steps, the host reads the result. `Ok`
binds the payload; `Err` ends the program. -/
def hostOperation (op : Opcode) (args : List Arg) (bind : Option HostName) (h : HostState) : HostOutcome :=
  match args.mapM (Arg.resolve h.vars) with
  | none => .undescribed .noSuchValue
  | some os =>
    match step (h.block.issue ⟨op.selector, os⟩) with
    | .refused (.unsupportedOperation opsel) => .ended (.stopped (.unsupportedOperation opsel) h.index) h.vars
    | .refused _ => .undescribed .operandMismatch
    | .fault _ => .undescribed .noSuchValue
    | .next block =>
      match block.readLatch with
      | .next (.ok p) =>
        .running { index := h.index + 1, block := block,
                   vars := match bind with
                     | none => h.vars
                     | some name => bindVar h.vars name (.payload p) }
      | .next (.err e) => .ended (.stopped e h.index) h.vars
      | _ => .undescribed .noSuchValue

/-- One host statement (R75). -/
def hostStep (prog : List (HostLine HostStmt)) (h : HostState) : HostOutcome :=
  match prog[h.index]? with
  | none => .undescribed .pastTheEnd
  | some l =>
    match l.stmt with
    | .operation op args bind => hostOperation op args bind h
    | .brt v target =>
      match v.bool h.vars with
      | none => .undescribed .noSuchValue
      | some b => if b then branchTo prog target h else .running h.advance
    | .brf v target =>
      match v.bool h.vars with
      | none => .undescribed .noSuchValue
      | some b => if b then .running h.advance else branchTo prog target h
    | .jmp target => branchTo prog target h
    | .recv name bs => .running { h.advance with vars := bindVar h.vars name (.received bs) }
    | .halt => .ended .done h.vars

/-- At most `fuel` statements of a program (R231: a loop the program wrote is bounded by the host's fuel). -/
def hostRun (prog : List (HostLine HostStmt)) : Nat → HostState → HostOutcome
  | 0, h => .running h
  | fuel + 1, h =>
    match hostStep prog h with
    | .running h' => hostRun prog fuel h'
    | o => o

end Sys2Proof.Machine
end

