-- ==== Sys2Proof/Safety.lean ====
section
/-! DEFINITION. What counts as safe, in the terms the claims use: the results an operation may leave in the latch
(`Result.legal`), the invariant over it, and the duties of the host (`70_reset_and_hazards.md` section 2), which the block
cannot check (assumption log 15: DEDUCED, safe; assumption log 16 for R223 and 17 for R222). -/

namespace Sys2Proof.Machine

/-- A frame of R63 or R64: 9 bytes, the last the checksum of the first eight (R67, R105). -/
def validFrame (bs : Bytes) : Prop :=
  bs.length = Config.frameLen ∧ bs[8]? = some (checksum (bs.take 8))

/-- A response record BIN_DECODE can form: its checksum byte is that of a frame that carries its other fields, its value
is an `Int32`, and its derived fields are those of its status (R25, R112). -/
def BinaryResponse.legal (r : BinaryResponse) : Prop :=
  r.checksum =
      Sys2Proof.Machine.checksum ([r.replyAddress, r.moduleAddress, r.status, r.commandId] ++ wordBytes (maskWord r.value)) ∧
    inI32 r.value = true ∧ r.statusName = classify r.status ∧ r.isSuccessful = Sys2Proof.Machine.isSuccessful r.status

/-- A record ASCII_DECODE can form (R30, R143, R144): one letter, one letter, one to three digits, an optional minus and
at least one digit, and the integers those strings denote. -/
def AsciiResponse.legal (r : AsciiResponse) : Prop :=
  (∃ h, r.host = [h] ∧ isLetter h = true) ∧ (∃ c, r.client = [c] ∧ isLetter c = true) ∧
    (1 ≤ r.status.length ∧ r.status.length ≤ 3 ∧ r.status.all isDigit = true) ∧ r.statusInt = decimal r.status ∧
    ∃ digits, digits ≠ [] ∧ digits.all isDigit = true ∧
      ((r.value = digits ∧ r.valueInt = decimal digits) ∨
        (r.value = Config.asciiMinus :: digits ∧ r.valueInt = -(decimal digits : Int)))

/-- The payloads the operations may return. -/
def Payload.legal : Payload → Prop
  | .byte _ => True
  | .frame bs => validFrame bs
  | .response r => r.legal
  | .status name ok => (ok = true ↔ name = .success ∨ name = .commandLoaded)
  | .line l => l.getLast? = some Config.asciiCR ∧ 2 ≤ l.count Config.asciiSpace
  | .asciiResponse r => r.legal
  | .bool _ => True
  | .gpvar bank id => bank = 2#8 ∧ id.toNat ≤ 55

/-- The errors the operations may return, with the info each may carry (R200, R202, R204, R213). -/
def BlockError.legal : BlockError → Prop
  | .invalidParameter id => ¬(0 ≤ id ∧ id ≤ 55)
  | .malformedFrame n => n ≠ Config.frameLen
  | .malformedResponse => True
  | .checksumMismatch expected received => expected ≠ received
  | .transportTimeout => False
  | .transportIO => False
  | .unsupportedType type => type ≠ [] ∧ inAsciiTypeSet type = false
  | .fieldOutOfRange _ => True
  | .unsupportedOperation _ => False

/-- The results the operations may return. -/
def Result.legal : Result → Prop
  | .ok p => p.legal
  | .err e => e.legal

/-- The invariant: whatever value the latch holds is a result an operation may return. -/
def State.Inv (s : State) : Prop := ∀ r, s.latch = some r → r.legal

/-- R224: every field is in its declared width, so the truncating encoder changes nothing. -/
def fieldsInRange (a c t m v : Int) : Bool := (firstOutOfRange a c t m v).isNone

/-- R226: an ASCII field the host may pass: no CR and no space (so no `", "` either). -/
def asciiFieldClean (l : Str) : Bool := !l.contains Config.asciiCR && !l.contains Config.asciiSpace

/-- What a read of the transport gave the host: all the bytes it asked for, or those that came before a timeout (R223,
R232). -/
inductive TransportRead where
  | complete (bs : Bytes)
  | timedOut (bs : Bytes)
  deriving DecidableEq, Repr

/-- R223: the bytes a host may pass to BIN_DECODE or ASCII_DECODE as a frame or a line: those of a read that did not time
out. That a read was torn is known from the timeout alone, never from the bytes, since the source gives no mechanism
(`91_not_in_source.md` N26; assumption log 16: DESIGN CHOICE, safe). -/
def TransportRead.decodable : TransportRead → Option Bytes
  | .complete bs => some bs
  | .timedOut _ => none

/-- The length check a host can make on bytes for BIN_DECODE. It does not tell a torn read that was made up to 9 bytes from
a whole frame, and it has no counterpart for a line, whose length is not fixed (R223, N26; assumption log 16: DESIGN
CHOICE, unsafe where it is taken to say that a read was not torn, which no statement does). -/
def completeFrame (bs : Bytes) : Bool := decide (bs.length = Config.frameLen)

/-- The binary operations of a link (R228). -/
def isBinaryOp : Opcode → Bool
  | .binEncode | .binEncodeStrict | .binDecode | .binStatus => true
  | .checksum | .asciiEncode | .asciiDecode | .validateAxis | .validateGlobal | .makeGpvar => false

/-- The ASCII operations of a link (R228). -/
def isAsciiOp : Opcode → Bool
  | .asciiEncode | .asciiDecode => true
  | .checksum | .binEncode | .binEncodeStrict | .binDecode | .binStatus | .validateAxis | .validateGlobal
  | .makeGpvar => false

/-- R228: a link uses the binary operations or the ASCII operations, never both. -/
def oneVariant (ops : List Opcode) : Bool := ops.all (fun op => !isBinaryOp op) || ops.all (fun op => !isAsciiOp op)

/-- Whether an operation opens an exchange (it forms what is sent) or closes one (it reads the reply), by the operation
alone, whatever its result (assumption log 17: DESIGN CHOICE). -/
def exchangeRole : Opcode → Option Bool
  | .binEncode | .binEncodeStrict | .asciiEncode => some true
  | .binDecode | .asciiDecode => some false
  | .checksum | .binStatus | .validateAxis | .validateGlobal | .makeGpvar => none

/-- R222: on one link every exchange is closed before the next is opened, and a reply is decoded only inside its own
exchange. `inExchange` says whether one is open (the two states of R34). R222 does not say whether an encoder that returned
`Err` has opened an exchange, nor one whose frame the host never wrote or whose reply timed out; the model, which sees the
operations and not their results, counts each as opened and still open, so an encoder after it breaks the duty; and it
counts a decoder that returned `Err` as closing one (assumption log 17: DESIGN CHOICE, safe as a premise, unsafe as evidence
that a host broke R222, which no statement takes it for). -/
def exchangesSerialized (inExchange : Bool) : List Opcode → Bool
  | [] => true
  | op :: ops =>
    match exchangeRole op with
    | none => exchangesSerialized inExchange ops
    | some opens => (inExchange != opens) && exchangesSerialized opens ops

/-- R225: a parameter id the host may encode for an axis. -/
def axisGated (id : Int) : Bool := inAxisParamSet id

/-- R225: a (bank, id) pair the host may encode. -/
def globalGated (bank id : Int) : Bool := isGlobalParam bank id

/-- The operations whose results carry over to a realisation with the built `MAX_SEQ_LEN` (R6, D36). -/
def carriesOver (i : Instr) : Bool := i.fits Config.maxSeqLen

end Sys2Proof.Machine
end

