-- ==== Sys2Proof/Certificates/Slice0/Obligations.lean ====
section
/-! DEFINITION. The statements for the provers. Each says which rule of the spec it formalises; the decisions of the spec
(`92_eei_decisions.md`) are followed as its rules. In every one `s` is any state of the operation interface, and
`{ s with latch := some r }` says the frame too: the requests still waiting are unchanged and nothing but the latch is
written. -/

open Sys2Proof Sys2Proof.Machine

/-! ### The Checksum Unit -/

/-- R100: selector 0x01 carries CHECKSUM, and for any byte sequence, the empty one too, the result is the sum of the
bytes modulo 256, which is also what an 8-bit accumulator that starts at 0 ends with. It has no error. -/
def Obligations.ChecksumIsSumModulo256 : Prop :=
  ∀ (bs : Bytes) (s : State),
    decode ⟨0x01#8, [.seq bs]⟩ = .ok (.checksum bs) ∧
      ∃ c : Byte, c.toNat = (bs.map BitVec.toNat).sum % 256 ∧ c = bs.foldl (fun acc b => acc + b) 0#8 ∧
        exec (.checksum bs) s = .next { s with latch := some (.ok (.byte c)) }

/-- The law of order of `40_checksum.md` (an inference of the spec, marked "derived: from rule R100"): every
permutation of a sequence has the same checksum, so swapped bytes are not detected. -/
def Obligations.ChecksumIgnoresOrder : Prop :=
  ∀ (bs bs' : Bytes) (s : State), bs.Perm bs' → exec (.checksum bs) s = exec (.checksum bs') s

/-- The law of single-byte changes of `40_checksum.md` (an inference of the spec, "derived: from rule R100"): a change
of exactly one byte changes the checksum, by the difference of the bytes; raising one byte by 1 and lowering another
by 1 leaves it unchanged. -/
def Obligations.ChecksumSeesEverySingleByteChange : Prop :=
  (∀ (pre post : Bytes) (b b' : Byte) (s : State), b ≠ b' →
    ∃ c c' : Byte, exec (.checksum (pre ++ b :: post)) s = .next { s with latch := some (.ok (.byte c)) } ∧
      exec (.checksum (pre ++ b' :: post)) s = .next { s with latch := some (.ok (.byte c')) } ∧
      c' - c = b' - b ∧ c ≠ c') ∧
  (∀ (pre mid post : Bytes) (x y : Byte) (s : State),
    exec (.checksum (pre ++ (x + 1#8) :: mid ++ (y - 1#8) :: post)) s =
      exec (.checksum (pre ++ x :: mid ++ y :: post)) s)

/-- The law of splitting of `40_checksum.md` (an inference of the spec, "derived: from rule R100"): the checksum of two
sequences in a row is the sum of theirs modulo 256; a zero byte changes nothing; the byte `(256 - c) mod 256` brings it
to 0. -/
def Obligations.ChecksumSplitsOverAppend : Prop :=
  ∀ (as bs : Bytes) (s : State), ∃ x y : Byte,
    exec (.checksum as) s = .next { s with latch := some (.ok (.byte x)) } ∧
      exec (.checksum bs) s = .next { s with latch := some (.ok (.byte y)) } ∧
      exec (.checksum (as ++ bs)) s =
        .next { s with latch := some (.ok (.byte (BitVec.ofNat 8 ((x.toNat + y.toNat) % 256)))) } ∧
      exec (.checksum (as ++ [0#8])) s = .next { s with latch := some (.ok (.byte x)) } ∧
      exec (.checksum (as ++ [BitVec.ofNat 8 ((256 - x.toNat) % 256)])) s =
        .next { s with latch := some (.ok (.byte 0#8)) }

/-! ### The Binary Message Codec -/

/-- R110 and R63: selector 0x02 carries BIN_ENCODE, and for any five integers the result is the 9-byte frame whose bytes
are the header fields modulo 256, the value modulo 2^32 most significant byte first, and the sum of those eight bytes
modulo 256. It has no error. -/
def Obligations.BinEncodeMasksEveryField : Prop :=
  ∀ (a c t m v : Int) (s : State),
    decode ⟨0x02#8, [.int a, .int c, .int t, .int m, .int v]⟩ = .ok (.binEncode a c t m v) ∧
      ∃ f : Bytes, exec (.binEncode a c t m v) s = .next { s with latch := some (.ok (.frame f)) } ∧
        f.map (fun b => (b.toNat : Int)) =
          [a % 256, c % 256, t % 256, m % 256,
            v % 2 ^ 32 / 2 ^ 24, v % 2 ^ 32 / 2 ^ 16 % 256, v % 2 ^ 32 / 2 ^ 8 % 256, v % 2 ^ 32 % 256,
            (a % 256 + c % 256 + t % 256 + m % 256 + v % 2 ^ 32 / 2 ^ 24 + v % 2 ^ 32 / 2 ^ 16 % 256 +
              v % 2 ^ 32 / 2 ^ 8 % 256 + v % 2 ^ 32 % 256) % 256]

/-- R111: selector 0x03 carries BIN_ENCODE_STRICT; with every field in its declared width it gives BIN_ENCODE's frame,
and otherwise `FieldOutOfRange` with the index, in frame order, of the first field that is not. -/
def Obligations.BinEncodeStrictNamesFirstBadField : Prop :=
  ∀ (a c t m v : Int) (s : State),
    decode ⟨0x03#8, [.int a, .int c, .int t, .int m, .int v]⟩ = .ok (.binEncodeStrict a c t m v) ∧
      (if ¬(0 ≤ a ∧ a ≤ 255) then
        exec (.binEncodeStrict a c t m v) s = .next { s with latch := some (.err (.fieldOutOfRange 0)) }
      else if ¬(0 ≤ c ∧ c ≤ 255) then
        exec (.binEncodeStrict a c t m v) s = .next { s with latch := some (.err (.fieldOutOfRange 1)) }
      else if ¬(0 ≤ t ∧ t ≤ 255) then
        exec (.binEncodeStrict a c t m v) s = .next { s with latch := some (.err (.fieldOutOfRange 2)) }
      else if ¬(0 ≤ m ∧ m ≤ 255) then
        exec (.binEncodeStrict a c t m v) s = .next { s with latch := some (.err (.fieldOutOfRange 3)) }
      else if ¬(-2 ^ 31 ≤ v ∧ v ≤ 2 ^ 31 - 1) then
        exec (.binEncodeStrict a c t m v) s = .next { s with latch := some (.err (.fieldOutOfRange 4)) }
      else
        ∃ f : Bytes, exec (.binEncodeStrict a c t m v) s = .next { s with latch := some (.ok (.frame f)) } ∧
          exec (.binEncode a c t m v) s = .next { s with latch := some (.ok (.frame f)) })

/-- The truncation law of `41_binary_codec.md` (an inference of the spec, "derived: from rule R110 and rule R111"):
the truncating encoder is the strict one on the masked fields, and the strict one succeeds exactly when every field is
already in range. With it the silent truncation R224 warns of: any whole number of turns, 256 on a header field and 2^32
on the value, gives the same frame. -/
def Obligations.BinEncodeTruncationLaw : Prop :=
  (∀ (a c t m v ka kc kt km kv : Int) (s : State),
    exec (.binEncode (a + 256 * ka) (c + 256 * kc) (t + 256 * kt) (m + 256 * km) (v + 2 ^ 32 * kv)) s =
      exec (.binEncode a c t m v) s) ∧
  ∀ (a c t m v : Int) (s : State),
    exec (.binEncode a c t m v) s =
        exec (.binEncodeStrict (a % 256) (c % 256) (t % 256) (m % 256)
          (if v % 2 ^ 32 < 2 ^ 31 then v % 2 ^ 32 else v % 2 ^ 32 - 2 ^ 32)) s ∧
      ((∃ p, exec (.binEncodeStrict a c t m v) s = .next { s with latch := some (.ok p) }) ↔
        (0 ≤ a ∧ a ≤ 255) ∧ (0 ≤ c ∧ c ≤ 255) ∧ (0 ≤ t ∧ t ≤ 255) ∧ (0 ≤ m ∧ m ≤ 255) ∧
          -2 ^ 31 ≤ v ∧ v ≤ 2 ^ 31 - 1)

/-- R112, with the layout of R64: selector 0x04 carries BIN_DECODE. A length other than 9 is `MalformedFrame` with that
length; nine bytes whose last is not the sum of the first eight modulo 256 are `ChecksumMismatch` with both; any other
nine bytes give the response record with each byte in its field, the value as a signed big-endian integer, and the two
fields derived from the status. -/
def Obligations.BinDecodeChecksLengthThenChecksum : Prop :=
  (∀ bs : Bytes, decode ⟨0x04#8, [.seq bs]⟩ = .ok (.binDecode bs)) ∧
    (∀ (bs : Bytes) (s : State), bs.length ≠ 9 →
      exec (.binDecode bs) s = .next { s with latch := some (.err (.malformedFrame bs.length)) }) ∧
    (∀ (b0 b1 b2 b3 b4 b5 b6 b7 b8 : Byte) (s : State),
      let expect : Byte := BitVec.ofNat 8 ((b0.toNat + b1.toNat + b2.toNat + b3.toNat + b4.toNat + b5.toNat +
        b6.toNat + b7.toNat) % 256)
      let u : Int := b4.toNat * 2 ^ 24 + b5.toNat * 2 ^ 16 + b6.toNat * 2 ^ 8 + b7.toNat
      (b8 ≠ expect →
        exec (.binDecode [b0, b1, b2, b3, b4, b5, b6, b7, b8]) s =
          .next { s with latch := some (.err (.checksumMismatch expect b8)) }) ∧
      (b8 = expect →
        exec (.binDecode [b0, b1, b2, b3, b4, b5, b6, b7, b8]) s =
          .next { s with latch := some (.ok (.response
            { replyAddress := b0, moduleAddress := b1, status := b2, commandId := b3,
              value := if u < 2 ^ 31 then u else u - 2 ^ 32,
              checksum := b8, statusName := classify b2,
              isSuccessful := decide (b2 = 100#8 ∨ b2 = 101#8) })) }))

/-- Frame validity, the last law of `40_checksum.md` (an inference of the spec, "derived: from rule R100 and
`41_binary_codec.md` rule R112"): for any eight bytes exactly one ninth byte passes BIN_DECODE, the byte CHECKSUM gives
for them. -/
def Obligations.BinFrameHasOneValidNinthByte : Prop :=
  ∀ (hdr : Bytes) (s : State), hdr.length = 8 →
    ∃ c : Byte, exec (.checksum hdr) s = .next { s with latch := some (.ok (.byte c)) } ∧
      ∀ b : Byte, (∃ r, exec (.binDecode (hdr ++ [b])) s = .next { s with latch := some (.ok (.response r)) }) ↔ b = c

/-- The round trip of `41_binary_codec.md` (an inference of the spec, "derived: from rule R110, rule R112 and
`40_checksum.md` rule R105"): a request frame with every field in range, decoded as a response, gives the same five
fields back, and the frame's checksum byte. -/
def Obligations.BinRoundTripInRange : Prop :=
  ∀ (a c t m v : Int) (s : State), 0 ≤ a ∧ a ≤ 255 → 0 ≤ c ∧ c ≤ 255 → 0 ≤ t ∧ t ≤ 255 → 0 ≤ m ∧ m ≤ 255 →
    -2 ^ 31 ≤ v ∧ v ≤ 2 ^ 31 - 1 →
    ∃ (f : Bytes) (r : BinaryResponse),
      exec (.binEncode a c t m v) s = .next { s with latch := some (.ok (.frame f)) } ∧
        exec (.binDecode f) s = .next { s with latch := some (.ok (.response r)) } ∧
        (r.replyAddress.toNat : Int) = a ∧ (r.moduleAddress.toNat : Int) = c ∧ (r.status.toNat : Int) = t ∧
        (r.commandId.toNat : Int) = m ∧ r.value = v ∧ f[8]? = some r.checksum

/-- The value range of `41_binary_codec.md` (an inference of the spec, "derived: from `30_encoding.md` rules R65 and
R66"): whatever the value, the frame decodes to `sext_32(v mod 2^32)`. -/
def Obligations.BinRoundTripValueTruncates : Prop :=
  ∀ (a c t m v : Int) (s : State), ∃ (f : Bytes) (r : BinaryResponse),
    exec (.binEncode a c t m v) s = .next { s with latch := some (.ok (.frame f)) } ∧
      exec (.binDecode f) s = .next { s with latch := some (.ok (.response r)) } ∧
      r.value = if v % 2 ^ 32 < 2 ^ 31 then v % 2 ^ 32 else v % 2 ^ 32 - 2 ^ 32

/-- Corruption, of `41_binary_codec.md` (an inference of the spec, "derived: from rule R112 and `40_checksum.md` rule
R103"): a 9-byte frame BIN_DECODE accepts is refused with `ChecksumMismatch` after any change of any one byte, the
ninth included. -/
def Obligations.BinCorruptionIsAlwaysCaught : Prop :=
  ∀ (f : Bytes) (s : State) (r : BinaryResponse) (i : Nat) (b : Byte),
    exec (.binDecode f) s = .next { s with latch := some (.ok (.response r)) } → i < 9 → f[i]? ≠ some b →
      ∃ expected received : Byte, expected ≠ received ∧
        exec (.binDecode (f.set i b)) s = .next { s with latch := some (.err (.checksumMismatch expected received)) }

/-- R113 with the table of R26, the default of R27 and the flag of R28: selector 0x05 carries BIN_STATUS, and each of
the 256 status bytes has its name and its flag. It has no error. -/
def Obligations.BinStatusFollowsTheTable : Prop :=
  ∀ (status : Byte) (s : State),
    decode ⟨0x05#8, [.int status.toNat]⟩ = .ok (.binStatus status) ∧
      exec (.binStatus status) s = .next { s with latch := some (.ok (
        if status = 100#8 then .status .success true
        else if status = 101#8 then .status .commandLoaded true
        else if status = 1#8 then .status .checksumWrong false
        else if status = 2#8 then .status .commandInvalid false
        else if status = 3#8 then .status .typeWrong false
        else if status = 4#8 then .status .valueInvalid false
        else if status = 5#8 then .status .eepromLocked false
        else if status = 6#8 then .status .commandUnavailable false
        else .status .unknown false)) }

/-- R209: a response whose status byte is any value other than 100 and 101 decodes successfully, and says so through
`is_successful = false`. -/
def Obligations.DeviceStatusIsNoBlockError : Prop :=
  ∀ (b0 b1 b2 b3 b4 b5 b6 b7 : Byte) (s : State), b2 ≠ 100#8 → b2 ≠ 101#8 →
    ∃ r : BinaryResponse,
      exec (.binDecode [b0, b1, b2, b3, b4, b5, b6, b7, b0 + b1 + b2 + b3 + b4 + b5 + b6 + b7]) s =
          .next { s with latch := some (.ok (.response r)) } ∧
        r.status = b2 ∧ r.isSuccessful = false

/-! ### The ASCII Message Codec -/

/-- R140 to R142: selector 0x06 carries ASCII_ENCODE. With an empty type or one of `ASCII_TYPE_SET` the result is
address, space, instruction, space, the non-empty of type, bank and value joined by `", "`, and CR; with any other type
it is `UnsupportedType` with that type. The set has `"ABS"`. With type, bank and value all empty the space after the
instruction stays, so the line ends in a space and CR. -/
def Obligations.AsciiEncodeJoinsNonEmptyFields : Prop :=
  inAsciiTypeSet [0x41#8, 0x42#8, 0x53#8] = true ∧
    ∀ (address instruction type bank value : Str) (s : State),
      decode ⟨0x06#8, [.seq address, .seq instruction, .seq type, .seq bank, .seq value]⟩ =
          .ok (.asciiEncode address instruction type bank value) ∧
        exec (.asciiEncode address instruction type bank value) s =
          .next { s with latch := some (
            if type = [] ∨ inAsciiTypeSet type = true then
              .ok (.line (address ++ [0x20#8] ++ instruction ++ [0x20#8] ++
                List.intercalate [0x2C#8, 0x20#8] ([type, bank, value].filter (fun p => decide (0 < p.length))) ++
                [0x0D#8]))
            else .err (.unsupportedType type)) } ∧
        exec (.asciiEncode address instruction [] [] []) s =
          .next { s with latch := some (.ok (.line (address ++ [0x20#8] ++ instruction ++ [0x20#8, 0x0D#8]))) }

/-- The shape of an encoded line, of `42_ascii_codec.md` (an inference of the spec, "derived: from rule R140"): it ends
in CR, holds one CR more than its emitted fields do, at least two spaces, and has the length the rule gives. -/
def Obligations.AsciiEncodeShape : Prop :=
  ∀ (address instruction type bank value : Str) (s : State), type = [] ∨ inAsciiTypeSet type = true →
    ∃ l : Str, exec (.asciiEncode address instruction type bank value) s =
        .next { s with latch := some (.ok (.line l)) } ∧
      l.getLast? = some 0x0D#8 ∧
      l.count 0x0D#8 = address.count 0x0D#8 + instruction.count 0x0D#8 + type.count 0x0D#8 + bank.count 0x0D#8 +
        value.count 0x0D#8 + 1 ∧
      2 ≤ l.count 0x20#8 ∧
      l.length = address.length + instruction.length + (type.length + bank.length + value.length) +
        2 * (([type, bank, value].filter (fun p => decide (0 < p.length))).length - 1) + 3

/-- R143 with the grammar of R71, the integers of R144 and the byte classes of R15 (the first clause): selector 0x07
carries ASCII_DECODE. A line of the grammar gives its four strings and the base-10 values of the two numbers; every other
line is `MalformedResponse`. -/
def Obligations.AsciiDecodeMatchesExactlyTheGrammar : Prop :=
  (∀ b : Byte,
    (isLetter b = true ↔ (0x41 ≤ b.toNat ∧ b.toNat ≤ 0x5A) ∨ (0x61 ≤ b.toNat ∧ b.toNat ≤ 0x7A)) ∧
      (isDigit b = true ↔ 0x30 ≤ b.toNat ∧ b.toNat ≤ 0x39) ∧
      (isWS b = true ↔ b = 0x20#8 ∨ b = 0x09#8 ∨ b = 0x0A#8 ∨ b = 0x0B#8 ∨ b = 0x0C#8 ∨ b = 0x0D#8)) ∧
  (∀ line : Str, decode ⟨0x07#8, [.seq line]⟩ = .ok (.asciiDecode line)) ∧
    (∀ (host w1 client w2 w3 : Byte) (status digits trailer : Str) (negative : Bool) (s : State),
      isLetter host = true → isWS w1 = true → isLetter client = true → isWS w2 = true →
      1 ≤ status.length → status.length ≤ 3 → status.all isDigit = true → isWS w3 = true →
      digits ≠ [] → digits.all isDigit = true → trailer = [] ∨ trailer = [0x0D#8] →
        exec (.asciiDecode ([host, w1, client, w2] ++ status ++ [w3] ++ (if negative then [0x2D#8] else []) ++ digits ++
            trailer)) s =
          .next { s with latch := some (.ok (.asciiResponse
            { host := [host], client := [client], status := status,
              value := (if negative then [0x2D#8] else []) ++ digits,
              statusInt := (Nat.ofDigits 10 ((status.map fun b => b.toNat - 0x30).reverse) : Nat),
              valueInt := (if negative then -1 else 1) *
                (Nat.ofDigits 10 ((digits.map fun b => b.toNat - 0x30).reverse) : Nat) })) }) ∧
    (∀ (line : Str) (s : State),
      (¬∃ (host w1 client w2 w3 : Byte) (status digits trailer : Str) (negative : Bool),
        isLetter host = true ∧ isWS w1 = true ∧ isLetter client = true ∧ isWS w2 = true ∧
        1 ≤ status.length ∧ status.length ≤ 3 ∧ status.all isDigit = true ∧ isWS w3 = true ∧
        digits ≠ [] ∧ digits.all isDigit = true ∧ (trailer = [] ∨ trailer = [0x0D#8]) ∧
        line = [host, w1, client, w2] ++ status ++ [w3] ++ (if negative then [0x2D#8] else []) ++ digits ++ trailer) →
      exec (.asciiDecode line) s = .next { s with latch := some (.err .malformedResponse) })

/-! ### The Parameter Address Table -/

/-- R170 and R171: selector 0x08 carries VALIDATE_AXIS, whose result is membership in one set that has 205, lacks 999
and lies in 0..255. It has no error. -/
def Obligations.ValidateAxisIsMembership : Prop :=
  ∃ axisSet : Int → Bool,
    axisSet 205 = true ∧ axisSet 999 = false ∧ (∀ id, axisSet id = true → 0 ≤ id ∧ id ≤ 255) ∧
      ∀ (id : Int) (s : State),
        decode ⟨0x08#8, [.int id]⟩ = .ok (.validateAxis id) ∧
          exec (.validateAxis id) s = .next { s with latch := some (.ok (.bool (axisSet id))) }

/-- R172 to R174: selector 0x09 carries VALIDATE_GLOBAL, whose result is membership in one set of named pairs, or bank 2
with an id in 0..55. The set has (0, 64), lacks (1, 64) and (2, 60), and has only pairs of bank 0 with an id in 0..255.
It has no error. -/
def Obligations.ValidateGlobalHasTwoPaths : Prop :=
  ∃ namedSet : Int → Int → Bool,
    namedSet 0 64 = true ∧ namedSet 1 64 = false ∧ namedSet 2 60 = false ∧
      (∀ bank id, namedSet bank id = true → bank = 0 ∧ 0 ≤ id ∧ id ≤ 255) ∧
      ∀ (bank id : Int) (s : State),
        decode ⟨0x09#8, [.int bank, .int id]⟩ = .ok (.validateGlobal bank id) ∧
          exec (.validateGlobal bank id) s =
            .next { s with latch := some (.ok (.bool (namedSet bank id || decide (bank = 2 ∧ 0 ≤ id ∧ id ≤ 55)))) }

/-- R175: selector 0x0A carries MAKE_GPVAR. An id in 0..55 gives the pair (2, id); any other gives `InvalidParameter`
with that id. -/
def Obligations.MakeGpvarFormsBankTwoAddresses : Prop :=
  ∀ (id : Int) (s : State),
    decode ⟨0x0A#8, [.int id]⟩ = .ok (.makeGpvar id) ∧
      (0 ≤ id ∧ id ≤ 55 → ∃ i : Byte, (i.toNat : Int) = id ∧
        exec (.makeGpvar id) s = .next { s with latch := some (.ok (.gpvar 2#8 i)) }) ∧
      (¬(0 ≤ id ∧ id ≤ 55) →
        exec (.makeGpvar id) s = .next { s with latch := some (.err (.invalidParameter id)) })

/-- Disjoint paths, of `43_parameter_table.md` (an inference of the spec, "derived: from rules R172, R173 and R175"):
only banks 0 and 2 are ever valid; MAKE_GPVAR succeeds exactly when VALIDATE_GLOBAL accepts bank 2 with that id, and
then its pair is one VALIDATE_GLOBAL accepts. -/
def Obligations.GpvarAgreesWithValidateGlobal : Prop :=
  ∀ (bank id : Int) (s : State),
    (exec (.validateGlobal bank id) s = .next { s with latch := some (.ok (.bool true)) } → bank = 0 ∨ bank = 2) ∧
      ((∃ p, exec (.makeGpvar id) s = .next { s with latch := some (.ok p) }) ↔
        exec (.validateGlobal 2 id) s = .next { s with latch := some (.ok (.bool true)) }) ∧
      ∀ b i : Byte, exec (.makeGpvar id) s = .next { s with latch := some (.ok (.gpvar b i)) } →
        exec (.validateGlobal b.toNat i.toNat) s = .next { s with latch := some (.ok (.bool true)) }

/-! ### All operations -/

/-- R48: every operation answers, in every state, with a result that depends on the operation alone, and writes nothing
but the latch: the frame of all ten operations. -/
def Obligations.OperationsArePure : Prop :=
  ∀ i : Instr, ∃ r : Result, ∀ s : State, exec i s = .next { s with latch := some r }

/-- R200: the numeric codes of the taxonomy, and that an operation raises only the errors the table gives it; CHECKSUM,
BIN_ENCODE, BIN_STATUS, VALIDATE_AXIS and VALIDATE_GLOBAL raise none, and no operation raises a transport error (R204)
or `UnsupportedOperation`. -/
def Obligations.ErrorsBelongToTheirOperations : Prop :=
  (∀ (id : Int) (n : Nat) (e r : Byte) (t : Str) (k : Fin 5) (o : Byte) (p : Payload),
    (Result.ok p).code = 0 ∧ (BlockError.invalidParameter id).code = 1 ∧ (BlockError.malformedFrame n).code = 2 ∧
      BlockError.malformedResponse.code = 3 ∧ (BlockError.checksumMismatch e r).code = 4 ∧
      BlockError.transportTimeout.code = 5 ∧ BlockError.transportIO.code = 6 ∧
      (BlockError.unsupportedType t).code = 7 ∧ (BlockError.fieldOutOfRange k).code = 8 ∧
      (BlockError.unsupportedOperation o).code = 9) ∧
  ∀ (i : Instr) (s : State) (e : BlockError), exec i s = .next { s with latch := some (.err e) } →
    match i with
    | .makeGpvar _ => e.code = 1
    | .binDecode _ => e.code = 2 ∨ e.code = 4
    | .asciiDecode _ => e.code = 3
    | .asciiEncode _ _ _ _ _ => e.code = 7
    | .binEncodeStrict _ _ _ _ _ => e.code = 8
    | .checksum _ => False
    | .binEncode _ _ _ _ _ => False
    | .binStatus _ => False
    | .validateAxis _ => False
    | .validateGlobal _ _ => False

/-- The fields of an error's info are what R202 says they can be, and more: every result an operation leaves in the
latch is legal (`Result.legal`: a frame has a right checksum, a record's derived fields follow from its others, an
error's info is one that raises it). The clauses of `Result.legal` rest on R25 to R30, R63, R64, R67, R110, R112, R113,
R140, R143, R144, R175, R200 and R202, and on the shape law R146. -/
def Obligations.EveryAnswerIsLegal : Prop :=
  ∀ (i : Instr) (s : State) (r : Result), exec i s = .next { s with latch := some r } → r.legal

/-! ### Requests, steps and reset -/

/-- One step answers the oldest request with the operation it decodes to, in the state without that request; with no
request at the interface it changes nothing (the model's choice, assumption log 2). -/
def Obligations.StepRunsTheDecodedOperation : Prop :=
  (∀ (r : Request) (rest : List Request) (l : Option Result) (i : Instr), decode r = .ok i →
    step { requests := r :: rest, latch := l } = exec i { requests := rest, latch := l }) ∧
  ∀ l : Option Result, step { requests := [], latch := l } = .next { requests := [], latch := l }

/-- R62 and R205: a request with a selector 0x00 or 0x0B..0xFF is refused with `UnsupportedOperation` and that selector,
whatever its operands. -/
def Obligations.ReservedSelectorsAreRefused : Prop :=
  ∀ (opsel : Byte) (operands : List Operand) (rest : List Request) (l : Option Result),
    opsel = 0#8 ∨ 0x0B ≤ opsel.toNat →
      step { requests := ⟨opsel, operands⟩ :: rest, latch := l } = .refused (.unsupportedOperation opsel)

/-- The decoder accepts exactly the requests of R60 and R61; one with an assigned selector and other operands is refused
under a name of its own (the model's choice, assumption log 3). -/
def Obligations.DecodeAcceptsExactlyTheRequests : Prop :=
  ∀ r : Request,
    ((∃ i, decode r = .ok i) ↔ r.wellFormed = true) ∧
      (r.wellFormed = false → 1 ≤ r.opsel.toNat → r.opsel.toNat ≤ 0x0A → decode r = .error (.operandMismatch r.opsel))

/-- Decoding and encoding agree, both ways: every operation, with every operand, comes back from its request, and a
request that decodes is the one its operation encodes to. -/
def Obligations.DecodeEncodeAgree : Prop :=
  (∀ i : Instr, decode (encode i) = .ok i) ∧ ∀ (r : Request) (i : Instr), decode r = .ok i → encode i = r

/-- Six of the encodings written out in `95_test_vectors.md` L3 decode to the operations they stand for: lines 0 and 2 of
program P1, lines 0, 1 and 3 of P2, and line 3 of P5. -/
def Obligations.KnownRequestsDecode : Prop :=
  decode ⟨0x08#8, [.int 205]⟩ = .ok (.validateAxis 205) ∧
    decode ⟨0x03#8, [.int 1, .int 5, .int 205, .int 0, .int 100]⟩ = .ok (.binEncodeStrict 1 5 205 0 100) ∧
    decode ⟨0x0A#8, [.int 55]⟩ = .ok (.makeGpvar 55) ∧
    decode ⟨0x09#8, [.int 2, .int 55]⟩ = .ok (.validateGlobal 2 55) ∧
    decode ⟨0x02#8, [.int 1, .int 9, .int 55, .int 2, .int (-1)]⟩ = .ok (.binEncode 1 9 55 2 (-1)) ∧
    decode ⟨0x05#8, [.int 100]⟩ = .ok (.binStatus 100#8)

/-- R22: after reset, at once or later, the result latch has no value and reading it is a fault; after an operation it
reads as that operation's result. -/
def Obligations.LatchHasNoValueUntilAnOperation : Prop :=
  State.reset.readLatch = .fault .latchHasNoValue ∧
    (∀ s : State, s.applyReset.readLatch = .fault .latchHasNoValue) ∧
    ∀ (i : Instr) (s : State), ∃ (t : State) (r : Result), exec i s = .next t ∧ t.readLatch = .next r ∧
      t.latch = some r

/-- The state after reset meets the invariant: its latch has no value. -/
def Obligations.ResetMeetsTheLatchInvariant : Prop := State.reset.Inv

/-- The invariant of the latch: from every state whose latch holds no value or a legal result, a step that answers
leaves such a state. What is legal (`Result.legal`) rests on the rules named at `Obligations.EveryAnswerIsLegal`. -/
def Obligations.StepKeepsTheLatchInvariant : Prop :=
  ∀ s t : State, s.Inv → step s = .next t → t.Inv

/-- How a step can end. With a waiting request (R213, an inference of the spec, "derived: from rules R201 and R205 and
`10_state.md` rule R22"): in a next state without that request and with a new result for it, or in a refusal. It never
faults. Two parts are the model's choice: that a step with no waiting request changes nothing (assumption log 2), and that
operands which do not fit an assigned selector are refused as operandMismatch (assumption log 3). -/
def Obligations.StepAnswersOrRefuses : Prop :=
  ∀ s : State,
    (s.requests = [] ∧ step s = .next s) ∨
      ∃ (q : Request) (rest : List Request), s.requests = q :: rest ∧
        ((q.wellFormed = true ∧ ∃ r, step s = .next { requests := rest, latch := some r }) ∨
          (q.wellFormed = false ∧
            (step s = .refused (.unsupportedOperation q.opsel) ∨ step s = .refused (.operandMismatch q.opsel))))

/-- The consistency model of R50 (an inference of the spec, "derived: from rule R48 and `10_state.md` rule R20"): whatever
operations a host issued before it and after it, and whatever their results, errors among them, the operation `i` is
answered in its turn, with the result it has alone. -/
def Obligations.ResultsComeInIssueOrder : Prop :=
  ∀ (before : List Instr) (i : Instr) (after : List Request) (l : Option Result),
    ∃ r : Result, (∀ s : State, exec i s = .next { s with latch := some r }) ∧
      Host.Core.run Sys2Proof.core (before.length + 1)
          ({ requests := before.map encode ++ encode i :: after, latch := l } : State) =
        .next ({ requests := after, latch := some r } : State)

/-- The model's own way to place an operation (assumption log 4): a table word that decodes is answered by the very next
step, in the state it was placed in. -/
def Obligations.TableWordIsRunNext : Prop :=
  ∀ (s : State) (nbits w : Nat) (i : Instr), decodeTableWord nbits w = some i →
    step (s.withFetchWord nbits w) = exec i s

/-- The host above the block (the part of R75 about block operations; assumption log 12): when no other request stands
at the interface, a host's operation statement issues its request, and an `Ok` result binds its payload and moves to the
next statement, while an `Err` ends the program at that statement with that error. -/
def Obligations.HostOperationBindsOrStops : Prop :=
  ∀ (op : Opcode) (operands : List Operand) (name : HostName) (h : HostState) (i : Instr),
    decode ⟨op.selector, operands⟩ = .ok i → h.block.requests = [] →
      ∃ r : Result, (∀ s : State, exec i s = .next { s with latch := some r }) ∧
        hostOperation op (operands.map Arg.lit) (some name) h =
          match r with
          | .ok p => .running { index := h.index + 1, vars := bindVar h.vars name (.payload p),
                                block := { requests := [], latch := some r } }
          | .err e => .ended (.stopped e h.index) h.vars
end

