-- ==== Sys2Proof/Laws/State.lean ====
section
/-! SUPPORT. One lemma per field per update of the interface's state. -/

namespace Sys2Proof.Machine

@[simp] theorem answer_requests (s : State) (r : Result) : (s.answer r).requests = s.requests := rfl
@[simp] theorem answer_latch (s : State) (r : Result) : (s.answer r).latch = some r := rfl
@[simp] theorem complete_requests (s : State) (p : Payload) : (s.complete p).requests = s.requests := rfl
@[simp] theorem complete_latch (s : State) (p : Payload) : (s.complete p).latch = some (.ok p) := rfl
@[simp] theorem raise_requests (s : State) (e : BlockError) : (s.raise e).requests = s.requests := rfl
@[simp] theorem raise_latch (s : State) (e : BlockError) : (s.raise e).latch = some (.err e) := rfl
@[simp] theorem issue_requests (s : State) (r : Request) : (s.issue r).requests = s.requests ++ [r] := rfl
@[simp] theorem issue_latch (s : State) (r : Request) : (s.issue r).latch = s.latch := rfl
@[simp] theorem reset_requests : State.reset.requests = [] := rfl
@[simp] theorem reset_latch : State.reset.latch = none := rfl
@[simp] theorem applyReset_eq (s : State) : s.applyReset = State.reset := rfl
@[simp] theorem withFetchWord_requests (s : State) (nbits w : Nat) :
    (s.withFetchWord nbits w).requests = tableRequest nbits w :: s.requests := rfl
@[simp] theorem withFetchWord_latch (s : State) (nbits w : Nat) : (s.withFetchWord nbits w).latch = s.latch := rfl

/-- What finishing an operation does, whether it succeeded or raised an error: its result is in the latch. -/
@[simp] theorem finish_eq (s : State) (r : Result) : s.finish r = { s with latch := some r } := by
  cases r <;> rfl

end Sys2Proof.Machine
end

