-- ==== Sys2Proof/Laws/Ops.lean ====
section
/-! SUPPORT. What each shared operation can do, said once: the interface's operations, the checksum of rule R100, the
byte order of rules R65 and R66, and the masks and ranges of rules R110 and R111. -/

namespace Sys2Proof.Machine

/-! ### The interface -/

theorem fetch_eq_none (s : State) : s.fetch = none ↔ s.requests = [] := by
  unfold State.fetch
  cases h : s.requests <;> simp

theorem fetch_eq_some (s s' : State) (r : Request) :
    s.fetch = some (r, s') ↔ s.requests = r :: s'.requests ∧ s'.latch = s.latch := by
  obtain ⟨q, l⟩ := s
  obtain ⟨q', l'⟩ := s'
  cases q with
  | nil => simp [State.fetch]
  | cons r' rest =>
    simp only [State.fetch, Option.some.injEq, Prod.mk.injEq, State.mk.injEq, List.cons.injEq]
    constructor
    · rintro ⟨h1, h2, h3⟩
      exact ⟨⟨h1, h2⟩, h3.symm⟩
    · rintro ⟨⟨h1, h2⟩, h3⟩
      exact ⟨h1, h2, h3.symm⟩

/-- A step with a waiting request, whatever the request decodes to. -/
theorem step_cons (r : Request) (rest : List Request) (l : Option Result) :
    step { requests := r :: rest, latch := l } =
      match decode r with
      | .ok i => exec i { requests := rest, latch := l }
      | .error e => .refused (refusalOf e) := rfl

theorem readLatch_of_some (s : State) (r : Result) (h : s.latch = some r) : s.readLatch = .next r := by
  simp [State.readLatch, h]

/-! ### The meanings, each its unit's result in the latch -/

theorem exec_checksum (bs : Bytes) (s : State) :
    exec (.checksum bs) s = .next { s with latch := some (.ok (.byte (checksum bs))) } := rfl

theorem exec_binEncode (a c t m v : Int) (s : State) :
    exec (.binEncode a c t m v) s = .next { s with latch := some (.ok (.frame (requestFrame a c t m v))) } := rfl

theorem exec_binEncodeStrict (a c t m v : Int) (s : State) :
    exec (.binEncodeStrict a c t m v) s = .next { s with latch := some (strictResult a c t m v) } := by
  simp [exec, execBinEncodeStrict]

theorem exec_binDecode (bs : Bytes) (s : State) :
    exec (.binDecode bs) s = .next { s with latch := some (decodeFrame bs) } := by
  simp [exec, execBinDecode]

theorem exec_binStatus (b : Byte) (s : State) :
    exec (.binStatus b) s = .next { s with latch := some (.ok (.status (classify b) (isSuccessful b))) } := rfl

theorem exec_asciiEncode (address instruction type bank value : Str) (s : State) :
    exec (.asciiEncode address instruction type bank value) s =
      .next { s with latch := some (encodeLine address instruction type bank value) } := by
  simp [exec, execAsciiEncode]

theorem exec_asciiDecode (line : Str) (s : State) :
    exec (.asciiDecode line) s = .next { s with latch := some (decodeLine line) } := by
  simp [exec, execAsciiDecode]

theorem exec_validateAxis (id : Int) (s : State) :
    exec (.validateAxis id) s = .next { s with latch := some (.ok (.bool (inAxisParamSet id))) } := rfl

theorem exec_validateGlobal (bank id : Int) (s : State) :
    exec (.validateGlobal bank id) s = .next { s with latch := some (.ok (.bool (isGlobalParam bank id))) } := rfl

theorem exec_makeGpvar (id : Int) (s : State) :
    exec (.makeGpvar id) s = .next { s with latch := some (gpvarResult id) } := by
  simp [exec, execMakeGpvar]

/-! ### The checksum -/

theorem foldl_add_toNat (bs : Bytes) (n : Nat) :
    bs.foldl (fun s b => s + b.toNat) n = n + (bs.map BitVec.toNat).sum := by
  induction bs generalizing n with
  | nil => simp
  | cons b bs ih => simp [ih, Nat.add_assoc]

/-- R100: the sum of the bytes modulo 256. -/
theorem checksum_toNat (bs : Bytes) : (checksum bs).toNat = (bs.map BitVec.toNat).sum % 256 := by
  simp [checksum, foldl_add_toNat, BitVec.toNat_ofNat]

@[simp] theorem checksum_nil : checksum [] = 0#8 := rfl

@[simp] theorem checksum_cons (b : Byte) (bs : Bytes) : checksum (b :: bs) = b + checksum bs := by
  apply BitVec.eq_of_toNat_eq
  simp [checksum_toNat, BitVec.toNat_add]

/-- R104: the checksum of two sequences in a row. -/
@[simp] theorem checksum_append (as bs : Bytes) : checksum (as ++ bs) = checksum as + checksum bs := by
  apply BitVec.eq_of_toNat_eq
  simp [checksum_toNat, BitVec.toNat_add]

/-! ### Masks, byte order and sign -/

theorem maskByte_toNat (x : Int) : ((maskByte x).toNat : Int) = x % 256 := by
  have h : 0 ≤ x % 256 ∧ x % 256 < 256 := ⟨Int.emod_nonneg _ (by decide), Int.emod_lt_of_pos _ (by decide)⟩
  simp only [maskByte, BitVec.toNat_ofNat]
  omega

theorem maskWord_toNat (x : Int) : ((maskWord x).toNat : Int) = x % 2 ^ 32 := by
  have h : 0 ≤ x % 2 ^ 32 ∧ x % 2 ^ 32 < 2 ^ 32 :=
    ⟨Int.emod_nonneg _ (by decide), Int.emod_lt_of_pos _ (by decide)⟩
  simp only [maskWord, BitVec.toNat_ofNat]
  omega

theorem wordOfBytes_toNat (b4 b5 b6 b7 : Byte) :
    (wordOfBytes b4 b5 b6 b7).toNat = b4.toNat * 2 ^ 24 + b5.toNat * 2 ^ 16 + b6.toNat * 2 ^ 8 + b7.toNat := by
  have h4 := b4.isLt
  have h5 := b5.isLt
  have h6 := b6.isLt
  have h7 := b7.isLt
  have e1 : b4.toNat <<< 24 ||| b5.toNat <<< 16 = (b4.toNat * 2 ^ 8 + b5.toNat) <<< 16 := by
    rw [show b4.toNat <<< 24 = (b4.toNat <<< 8) <<< 16 by rw [← Nat.shiftLeft_add], ← Nat.shiftLeft_or_distrib,
      ← Nat.shiftLeft_add_eq_or_of_lt h5, Nat.shiftLeft_eq b4.toNat 8]
  have e2 : (b4.toNat * 2 ^ 8 + b5.toNat) <<< 16 ||| b6.toNat <<< 8 =
      ((b4.toNat * 2 ^ 8 + b5.toNat) * 2 ^ 8 + b6.toNat) <<< 8 := by
    rw [show (b4.toNat * 2 ^ 8 + b5.toNat) <<< 16 = ((b4.toNat * 2 ^ 8 + b5.toNat) <<< 8) <<< 8 by
        rw [← Nat.shiftLeft_add], ← Nat.shiftLeft_or_distrib, ← Nat.shiftLeft_add_eq_or_of_lt h6,
      Nat.shiftLeft_eq (b4.toNat * 2 ^ 8 + b5.toNat) 8]
  have e3 : ((b4.toNat * 2 ^ 8 + b5.toNat) * 2 ^ 8 + b6.toNat) <<< 8 ||| b7.toNat =
      ((b4.toNat * 2 ^ 8 + b5.toNat) * 2 ^ 8 + b6.toNat) * 2 ^ 8 + b7.toNat := by
    rw [← Nat.shiftLeft_add_eq_or_of_lt h7, Nat.shiftLeft_eq]
  simp only [wordOfBytes, BitVec.toNat_ofNat]
  rw [e1, e2, e3]
  omega

/-- R42, R65, R66: the four bytes of a word, read back, are the word. -/
@[simp] theorem wordOfBytes_wordBytes (u : Word32) :
    wordOfBytes (u.extractLsb' 24 8) (u.extractLsb' 16 8) (u.extractLsb' 8 8) (u.extractLsb' 0 8) = u := by
  apply BitVec.eq_of_toNat_eq
  have hu := u.isLt
  rw [wordOfBytes_toNat]
  simp only [BitVec.extractLsb'_toNat, Nat.shiftRight_eq_div_pow]
  omega

theorem sext32_eq (u : Word32) : sext32 u = if (u.toNat : Int) < 2 ^ 31 then (u.toNat : Int) else u.toNat - 2 ^ 32 := by
  unfold sext32
  split <;> split <;> first | rfl | omega

/-- The value read back from a masked value: `sext_32(v mod 2^32)`. -/
theorem sext32_maskWord (v : Int) :
    sext32 (maskWord v) = if v % 2 ^ 32 < 2 ^ 31 then v % 2 ^ 32 else v % 2 ^ 32 - 2 ^ 32 := by
  rw [sext32_eq, maskWord_toNat]

theorem sext32_range (u : Word32) : -2 ^ 31 ≤ sext32 u ∧ sext32 u ≤ 2 ^ 31 - 1 := by
  have hu := u.isLt
  rw [sext32_eq]
  split <;> omega

theorem maskWord_sext32 (u : Word32) : maskWord (sext32 u) = u := by
  apply BitVec.eq_of_toNat_eq
  have hu := u.isLt
  have h := maskWord_toNat (sext32 u)
  rw [sext32_eq] at h ⊢
  split at h <;> split <;> omega

theorem inU8_iff (x : Int) : inU8 x = true ↔ 0 ≤ x ∧ x ≤ 255 := by simp [inU8]

theorem inI32_iff (x : Int) : inI32 x = true ↔ -2 ^ 31 ≤ x ∧ x ≤ 2 ^ 31 - 1 := by simp [inI32]

/-- Whatever `byteInTable` accepts is a byte. -/
theorem byteInTable_range (table : Byte → Bool) (id : Int) (h : byteInTable table id = true) : 0 ≤ id ∧ id ≤ 255 := by
  simp only [byteInTable, Bool.and_eq_true, inU8_iff] at h
  exact h.1

/-! ### The argument list -/

/-- R9's `join` is the library's intercalation. -/
theorem joinWith_eq (sep : Str) (parts : List Str) : joinWith sep parts = List.intercalate sep parts := by
  induction parts with
  | nil => rfl
  | cons p ps ih =>
    cases ps with
    | nil => simp [joinWith]
    | cons q qs => simp [joinWith, ih]

end Sys2Proof.Machine
end

