-- ==== Sys2Proof/Laws/Codec.lean ====
section
/-! SUPPORT. What the units' shared operations can do, said once: the strict encoder's range check (R111), the frame
decoder (R112), the argument list (R140) and the digit runs of the ASCII pattern (R143, R144). -/

namespace Sys2Proof.Machine

/-! ### The binary codec -/

/-- R111, R203: the first field outside its declared width. -/
theorem firstOutOfRange_eq (a c t m v : Int) :
    firstOutOfRange a c t m v =
      if ¬(0 ≤ a ∧ a ≤ 255) then some 0 else if ¬(0 ≤ c ∧ c ≤ 255) then some 1
      else if ¬(0 ≤ t ∧ t ≤ 255) then some 2 else if ¬(0 ≤ m ∧ m ≤ 255) then some 3
      else if ¬(-2 ^ 31 ≤ v ∧ v ≤ 2 ^ 31 - 1) then some 4 else none := by
  simp only [firstOutOfRange, inU8, inI32, Bool.not_eq_eq_eq_not, Bool.not_true, decide_eq_false_iff_not]

/-- A frame of the wrong length (R112). -/
theorem decodeFrame_of_length_ne (bs : Bytes) (h : bs.length ≠ 9) : decodeFrame bs = .err (.malformedFrame bs.length) := by
  unfold decodeFrame
  split
  · simp at h
  · rfl

/-- Eight bytes and a wrong ninth (R112). -/
theorem decodeFrame_append_ne (hdr : Bytes) (b : Byte) (h : hdr.length = 8) (hb : b ≠ checksum hdr) :
    decodeFrame (hdr ++ [b]) = .err (.checksumMismatch (checksum hdr) b) := by
  match hdr, h with
  | [_, _, _, _, _, _, _, _], _ => simp only [List.cons_append, List.nil_append, decodeFrame, hb, if_false]

/-- Eight bytes and the right ninth are accepted (R112). -/
theorem decodeFrame_append_eq (b0 b1 b2 b3 b4 b5 b6 b7 b8 : Byte)
    (h : b8 = checksum [b0, b1, b2, b3, b4, b5, b6, b7]) :
    decodeFrame [b0, b1, b2, b3, b4, b5, b6, b7, b8] = .ok (.response (responseOf b0 b1 b2 b3 b4 b5 b6 b7 b8)) := by
  simp only [decodeFrame, h, if_true]

/-- What an accepted frame is. -/
theorem decodeFrame_ok (f : Bytes) (r : BinaryResponse) (h : decodeFrame f = .ok (.response r)) :
    ∃ hdr, hdr.length = 8 ∧ f = hdr ++ [checksum hdr] := by
  unfold decodeFrame at h
  split at h
  · split at h
    · rename_i hb
      exact ⟨[_, _, _, _, _, _, _, _], rfl, by rw [hb]; rfl⟩
    · simp at h
  · simp at h

/-! ### The ASCII codec -/

theorem encodeLine_of_allowed (address instruction type bank value : Str)
    (h : type = [] ∨ inAsciiTypeSet type = true) :
    encodeLine address instruction type bank value = .ok (.line (requestLine address instruction type bank value)) := by
  unfold encodeLine
  rcases h with rfl | h <;> simp [*]

theorem nonEmptyParts_eq (parts : List Str) : nonEmptyParts parts = parts.filter (fun p => decide (0 < p.length)) := by
  unfold nonEmptyParts
  congr 1
  funext p
  cases p <;> simp

theorem isTrailer_iff (t : Str) : isTrailer t = true ↔ t = [] ∨ t = [0x0D#8] := by
  match t with
  | [] => simp [isTrailer]
  | [b] => simp [isTrailer]
  | _ :: _ :: _ => simp [isTrailer]

/-- A string is its leading digits and the rest. -/
theorem digitRun_append_afterDigits (l : Str) : digitRun l ++ afterDigits l = l := List.takeWhile_append_dropWhile

theorem digitRun_all (l : Str) : (digitRun l).all isDigit = true := by simp [digitRun]

/-- The digits before a byte that is none. -/
theorem digits_append_cons (ds : Str) (b : Byte) (rest : Str) (h : ds.all isDigit = true) (hb : isDigit b = false) :
    digitRun (ds ++ b :: rest) = ds ∧ afterDigits (ds ++ b :: rest) = b :: rest := by
  unfold digitRun afterDigits
  induction ds with
  | nil => simp [hb]
  | cons d ds ih =>
    simp only [List.all_cons, Bool.and_eq_true] at h
    simpa [h.1] using ih h.2

theorem digits_all (ds : Str) (h : ds.all isDigit = true) : digitRun ds = ds ∧ afterDigits ds = [] := by
  unfold digitRun afterDigits
  induction ds with
  | nil => simp
  | cons d ds ih =>
    simp only [List.all_cons, Bool.and_eq_true] at h
    simpa [h.1] using ih h.2

/-- A whitespace byte ends a run of digits. -/
theorem isDigit_of_isWS (b : Byte) (h : isWS b = true) : isDigit b = false := by
  revert b
  decide

/-- R144: the base-10 value, least significant digit last. -/
theorem decimal_eq (l : Str) : decimal l = Nat.ofDigits 10 ((l.map fun b => b.toNat - 0x30).reverse) := by
  have h : ∀ (l : Str) (n : Nat), l.foldl (fun n b => 10 * n + (b.toNat - 0x30)) n =
      Nat.ofDigits 10 ((l.map fun b => b.toNat - 0x30).reverse) + n * 10 ^ l.length := by
    intro l
    induction l with
    | nil => simp
    | cons b bs ih =>
      intro n
      simp only [List.foldl_cons, ih, List.map_cons, List.reverse_cons, Nat.ofDigits_append, List.length_reverse,
        List.length_map, Nat.ofDigits_singleton, List.length_cons, pow_succ]
      ring
  simp [decimal, h]

end Sys2Proof.Machine
end

