-- ==== Sys2Proof/Laws/Decode.lean ====
section
/-! SUPPORT. What decoding can answer, said once: the selectors of rules R60 and R62, and the operand lists of R61. -/

namespace Sys2Proof

/-- The reserved selectors (R62). -/
theorem ofSelector_eq_none (b : Byte) : Opcode.ofSelector b = none ↔ b.toNat = 0 ∨ 0x0B ≤ b.toNat := by
  revert b
  decide

@[simp] theorem ofSelector_selector (op : Opcode) : Opcode.ofSelector op.selector = some op := by
  cases op <;> rfl

theorem selector_of_ofSelector (b : Byte) (op : Opcode) (h : Opcode.ofSelector b = some op) : b = op.selector := by
  revert op b
  decide

theorem operandsMatch_nil (os : List Operand) : operandsMatch os [] = true ↔ os = [] := by
  cases os <;> simp [operandsMatch]

theorem operandsMatch_cons (os : List Operand) (t : OperandType) (ts : List OperandType) :
    operandsMatch os (t :: ts) = true ↔
      ∃ o os', os = o :: os' ∧ o.hasType t = true ∧ operandsMatch os' ts = true := by
  cases os <;> simp [operandsMatch]

theorem hasType_int (o : Operand) : o.hasType .int = true ↔ ∃ n, o = .int n := by
  cases o <;> simp [Operand.hasType]

theorem hasType_seq (o : Operand) : o.hasType .seq = true ↔ ∃ bs, o = .seq bs := by
  cases o <;> simp [Operand.hasType]

theorem hasType_byte (o : Operand) : o.hasType .byte = true ↔ ∃ n, o = .int n ∧ 0 ≤ n ∧ n ≤ 255 := by
  cases o <;> simp [Operand.hasType]

theorem byte_toNat_range (b : Byte) : 0 ≤ (b.toNat : Int) ∧ (b.toNat : Int) ≤ 255 := by
  have := b.isLt
  omega

/-- What reading the operands of an operation answers: the operation whose request they are, and only operands that
match its types. -/
theorem decodeOperands_some (op : Opcode) (os : List Operand) (i : Instr) (h : decodeOperands op os = some i) :
    (∃ types, signature op.selector = some types ∧ operandsMatch os types = true) ∧ encode i = ⟨op.selector, os⟩ := by
  unfold decodeOperands at h
  split at h
  case h_5 n =>
    split at h
    · rename_i hn
      obtain rfl := Option.some.inj h
      refine ⟨?_, ?_⟩
      · refine ⟨[.byte], rfl, ?_⟩
        simp only [operandsMatch_cons, operandsMatch_nil, hasType_byte]
        exact ⟨_, _, rfl, ⟨n, rfl, hn⟩, rfl⟩
      · simp only [encode, Request.mk.injEq, List.cons.injEq, Operand.int.injEq, true_and, and_true]
        rw [BitVec.toNat_ofInt]
        omega
    · simp at h
  all_goals first
    | (simp at h; done)
    | (obtain rfl := Option.some.inj h
       exact ⟨⟨_, rfl, rfl⟩, rfl⟩)

/-- Operands that match an operation's types are read. -/
theorem decodeOperands_of_match (op : Opcode) (os : List Operand) (types : List OperandType)
    (ht : signature op.selector = some types) (h : operandsMatch os types = true) :
    ∃ i, decodeOperands op os = some i := by
  cases op <;> obtain rfl := Option.some.inj ht <;> simp only [operandsMatch_cons, operandsMatch_nil, hasType_int, hasType_byte,
    hasType_seq] at h
  case binStatus =>
    obtain ⟨_, _, rfl, ⟨n, rfl, hn⟩, rfl⟩ := h
    exact ⟨_, by simp only [decodeOperands]; rw [if_pos hn]⟩
  case checksum | binDecode | asciiDecode | validateAxis | makeGpvar =>
    obtain ⟨_, _, rfl, ⟨_, rfl⟩, rfl⟩ := h
    exact ⟨_, rfl⟩
  case validateGlobal =>
    obtain ⟨_, _, rfl, ⟨_, rfl⟩, _, _, rfl, ⟨_, rfl⟩, rfl⟩ := h
    exact ⟨_, rfl⟩
  case binEncode | binEncodeStrict | asciiEncode =>
    obtain ⟨_, _, rfl, ⟨_, rfl⟩, _, _, rfl, ⟨_, rfl⟩, _, _, rfl, ⟨_, rfl⟩, _, _, rfl, ⟨_, rfl⟩, _, _, rfl, ⟨_, rfl⟩,
      rfl⟩ := h
    exact ⟨_, rfl⟩

/-- The two tables of selectors agree: a selector has a signature exactly when it names an operation. -/
theorem signature_eq_none (b : Byte) : signature b = none ↔ Opcode.ofSelector b = none := by
  revert b
  decide

/-- What decoding can answer. -/
theorem decode_cases (r : Request) :
    (Opcode.ofSelector r.opsel = none ∧ r.wellFormed = false ∧ decode r = .error (.unsupportedOperation r.opsel)) ∨
      ∃ op, Opcode.ofSelector r.opsel = some op ∧
        ((r.wellFormed = false ∧ decode r = .error (.operandMismatch r.opsel)) ∨
          ∃ i, r.wellFormed = true ∧ decodeOperands op r.operands = some i ∧ decode r = .ok i) := by
  unfold decode Request.wellFormed
  cases h : Opcode.ofSelector r.opsel with
  | none => exact .inl ⟨rfl, by simp [(signature_eq_none _).2 h], rfl⟩
  | some op =>
    refine .inr ⟨op, rfl, ?_⟩
    rw [selector_of_ofSelector _ _ h]
    cases hd : decodeOperands op r.operands with
    | some i =>
      obtain ⟨⟨types, ht, hm⟩, -⟩ := decodeOperands_some op _ i hd
      exact .inr ⟨i, by simp only [ht, hm], rfl, by simp only [hd]⟩
    | none =>
      refine .inl ⟨?_, by simp only [hd]⟩
      cases ht : signature op.selector with
      | none => rfl
      | some types =>
        cases hm : operandsMatch r.operands types with
        | false => exact hm
        | true =>
          obtain ⟨i, hi⟩ := decodeOperands_of_match op r.operands types ht hm
          simp [hi] at hd

end Sys2Proof
end

