-- ==== Sys2Proof/Laws/PerInstr.lean ====
section
/-! SUPPORT. Per-operation families: `RequestShape` says that an operation's request is one of R60 and R61. -/

namespace Sys2Proof.Laws.RequestShape

/-- The request of an operation has a selector 0x01..0x0A, so bits 7..4 are 0 (R60), and operands of the number
and types R61 lists. -/
def Statement (i : Instr) : Prop :=
  1 ≤ (encode i).opsel.toNat ∧ (encode i).opsel.toNat ≤ 0x0A ∧ (encode i).wellFormed = true

theorem selector_range (op : Opcode) : 1 ≤ op.selector.toNat ∧ op.selector.toNat ≤ 0x0A := by
  cases op <;> decide

theorem checksum (bs : Bytes) : Statement (.checksum bs) :=
  ⟨(selector_range .checksum).1, (selector_range .checksum).2, rfl⟩

theorem binEncode (a c t m v : Int) : Statement (.binEncode a c t m v) :=
  ⟨(selector_range .binEncode).1, (selector_range .binEncode).2, rfl⟩

theorem binEncodeStrict (a c t m v : Int) : Statement (.binEncodeStrict a c t m v) :=
  ⟨(selector_range .binEncodeStrict).1, (selector_range .binEncodeStrict).2, rfl⟩

theorem binDecode (bs : Bytes) : Statement (.binDecode bs) :=
  ⟨(selector_range .binDecode).1, (selector_range .binDecode).2, rfl⟩

theorem binStatus (status : Byte) : Statement (.binStatus status) := by
  refine ⟨(selector_range .binStatus).1, (selector_range .binStatus).2, ?_⟩
  have h : signature Opcode.binStatus.selector = some [.byte] := rfl
  simp [Request.wellFormed, encode, h, operandsMatch, Operand.hasType, byte_toNat_range status]

theorem asciiEncode (address instruction type bank value : Str) :
    Statement (.asciiEncode address instruction type bank value) :=
  ⟨(selector_range .asciiEncode).1, (selector_range .asciiEncode).2, rfl⟩

theorem asciiDecode (line : Str) : Statement (.asciiDecode line) :=
  ⟨(selector_range .asciiDecode).1, (selector_range .asciiDecode).2, rfl⟩

theorem validateAxis (id : Int) : Statement (.validateAxis id) :=
  ⟨(selector_range .validateAxis).1, (selector_range .validateAxis).2, rfl⟩

theorem validateGlobal (bank id : Int) : Statement (.validateGlobal bank id) :=
  ⟨(selector_range .validateGlobal).1, (selector_range .validateGlobal).2, rfl⟩

theorem makeGpvar (id : Int) : Statement (.makeGpvar id) :=
  ⟨(selector_range .makeGpvar).1, (selector_range .makeGpvar).2, rfl⟩

end Sys2Proof.Laws.RequestShape
end

