-- ==== Sys2Proof/Laws/Step.lean ====
section
/-! SUPPORT. What one step can do, said once, and how runs are made of steps. -/

namespace Sys2Proof.Machine

/-- What a step that answers has done: nothing, when no request waits; else it took the oldest request, which decodes,
and ran its operation. -/
theorem step_next_cases (s t : State) (h : step s = .next t) :
    (s.requests = [] ∧ t = s) ∨
      ∃ (r : Request) (rest : List Request) (i : Instr), s.requests = r :: rest ∧ decode r = .ok i ∧
        exec i { requests := rest, latch := s.latch } = .next t := by
  obtain ⟨q, l⟩ := s
  cases q with
  | nil =>
    cases h
    exact .inl ⟨rfl, rfl⟩
  | cons r rest =>
    rw [step_cons] at h
    split at h
    · rename_i i hi
      exact .inr ⟨r, rest, i, rfl, hi, h⟩
    · simp at h

theorem step_of_decode (r : Request) (rest : List Request) (l : Option Result) (e : Reject) (h : decode r = .error e) :
    step { requests := r :: rest, latch := l } = .refused (refusalOf e) := by
  rw [step_cons, h]

theorem run_succ_of_step (M : Host.Core) (k : Nat) (s t : M.State) (h : M.step s = .next t) :
    M.run (k + 1) s = M.run k t := by
  simp [Host.Core.run, h]

/-- A run of the block is its first step and the run after it. -/
theorem core_run_succ (k : Nat) (s t : State) (h : step s = .next t) :
    Host.Core.run Sys2Proof.core (k + 1) s = Host.Core.run Sys2Proof.core k t :=
  run_succ_of_step Sys2Proof.core k s t h

end Sys2Proof.Machine
end

