-- ==== Sys2Proof/Laws/Program.lean ====
section
/-! SUPPORT. The host-program layer: the bindings of host variables and the operands of a statement. -/

namespace Sys2Proof.Machine

/-- Literal operands are what they are, whatever is bound. -/
theorem resolve_literals (vars : List (HostName × HostValue)) (os : List Operand) :
    (os.map Arg.lit).mapM (Arg.resolve vars) = some os := by
  induction os with
  | nil => rfl
  | cons o os ih => simp [Arg.resolve, ih]

/-- A name reads as what it was last bound to. -/
theorem lookupVar_bindVar_self (vars : List (HostName × HostValue)) (name : HostName) (v : HostValue) :
    lookupVar (bindVar vars name v) name = some v := by
  unfold lookupVar bindVar
  rw [List.find?_append, List.find?_eq_none.2]
  · simp
  · intro p hp
    simpa using (List.mem_filter.1 hp).2

/-- Binding a name leaves every other name as it was. -/
theorem lookupVar_bindVar_ne (vars : List (HostName × HostValue)) (name other : HostName) (v : HostValue)
    (h : other ≠ name) : lookupVar (bindVar vars name v) other = lookupVar vars other := by
  unfold lookupVar bindVar
  congr 1
  induction vars with
  | nil => simp [h.symm]
  | cons p ps ih =>
    by_cases hp : p.1 = name
    · simp only [hp, beq_self_eq_true, Bool.not_true, Bool.false_eq_true, not_false_eq_true, List.filter_cons_of_neg, ih]
      rw [List.find?_cons_of_neg]
      simpa [hp] using h.symm
    · rw [List.filter_cons_of_pos (by simp [hp]), List.cons_append]
      by_cases hq : p.1 = other
      · simp [hq]
      · rw [List.find?_cons_of_neg (by simp [hq]), List.find?_cons_of_neg (by simp [hq])]
        exact ih

end Sys2Proof.Machine
end

