-- ==== Sys2Proof/Tests/Slice0.lean ====
section
/-! SUPPORT. Tests on fixed values. Every expected result is the spec's own: `95_test_vectors.md` (the section is named in
each comment) or the rule named. The witnesses at the end meet the hypotheses of the statements of
`Certificates/Slice0/Obligations.lean`. -/

namespace Sys2Proof.Tests

open Sys2Proof Sys2Proof.Machine

/-! ### Helpers -/

/-- The character codes of a text (R8). -/
def text (cs : List Char) : Str := cs.map fun c => BitVec.ofNat 8 c.toNat

/-- What a request decodes to. -/
def decoded (r : Request) : Option Instr :=
  match decode r with
  | .ok i => some i
  | .error _ => none

/-- The name a request is rejected under. -/
def rejected (r : Request) : Option Reject :=
  match decode r with
  | .ok _ => none
  | .error e => some e

/-- The result one step leaves in the latch, when the request stands alone after reset. -/
def stepResult (r : Request) : Option Result :=
  match step (State.reset.issue r) with
  | .next t => t.latch
  | .fault _ => none
  | .refused _ => none

/-- The refusal one step ends in. -/
def stepRefusal (r : Request) : Option Refusal :=
  match step (State.reset.issue r) with
  | .next _ => none
  | .fault _ => none
  | .refused e => some e

/-! ### Well-formed requests: an ill-formed one for each check -/

theorem test_wf_reserved : Request.wellFormed ⟨0x00#8, []⟩ = false ∧ Request.wellFormed ⟨0x0B#8, [.int 1]⟩ = false := by
  decide

theorem test_wf_operand_missing : Request.wellFormed ⟨0x09#8, [.int 2]⟩ = false := by decide

theorem test_wf_operand_surplus : Request.wellFormed ⟨0x08#8, [.int 2, .int 3]⟩ = false := by decide

theorem test_wf_operand_type :
    Request.wellFormed ⟨0x01#8, [.int 2]⟩ = false ∧ Request.wellFormed ⟨0x08#8, [.seq []]⟩ = false := by decide

theorem test_wf_byte_range :
    Request.wellFormed ⟨0x05#8, [.int 255]⟩ = true ∧ Request.wellFormed ⟨0x05#8, [.int 256]⟩ = false ∧
      Request.wellFormed ⟨0x05#8, [.int (-1)]⟩ = false := by decide

theorem test_fits_limit :
    Instr.fits (some 8) (.binDecode (List.replicate 9 0#8)) = false ∧
      Instr.fits (some 9) (.binDecode (List.replicate 9 0#8)) = true ∧
      Instr.fits none (.binDecode (List.replicate 9 0#8)) = true := by decide

/-! ### Decoding: one request per operation, written out from R60 and R61 (those of L3 as L3 gives them) -/

/-- P5 line 5: `01 | 01 06 01 00 00 00 00 00 08`. -/
theorem test_decode_checksum :
    decoded ⟨0b00000001#8, [.seq [0x01, 0x06, 0x01, 0x00, 0x00, 0x00, 0x00, 0x00, 0x08]]⟩ =
      some (.checksum [0x01, 0x06, 0x01, 0x00, 0x00, 0x00, 0x00, 0x00, 0x08]) := by decide

/-- P2 line 3: `02 | 1, 9, 55, 2, -1`. -/
theorem test_decode_binEncode :
    decoded ⟨0b00000010#8, [.int 1, .int 9, .int 55, .int 2, .int (-1)]⟩ = some (.binEncode 1 9 55 2 (-1)) := by decide

/-- P1 line 2: `03 | 1, 5, 205, 0, 100`. -/
theorem test_decode_binEncodeStrict :
    decoded ⟨0b00000011#8, [.int 1, .int 5, .int 205, .int 0, .int 100]⟩ =
      some (.binEncodeStrict 1 5 205 0 100) := by decide

/-- P4 index 2: `04 | 02 01 64 04 FF FF FF FF 66`. -/
theorem test_decode_binDecode :
    decoded ⟨0b00000100#8, [.seq [0x02, 0x01, 0x64, 0x04, 0xFF, 0xFF, 0xFF, 0xFF, 0x66]]⟩ =
      some (.binDecode [0x02, 0x01, 0x64, 0x04, 0xFF, 0xFF, 0xFF, 0xFF, 0x66]) := by decide

/-- P5 line 3: `05 | 100`. -/
theorem test_decode_binStatus : decoded ⟨0b00000101#8, [.int 100]⟩ = some (.binStatus 100#8) := by decide

/-- P3 index 0: `06 | "1", "MVP", "ABS", "", "100"`. -/
theorem test_decode_asciiEncode :
    decoded ⟨0b00000110#8, [.seq (text ['1']), .seq (text ['M', 'V', 'P']), .seq (text ['A', 'B', 'S']), .seq [],
        .seq (text ['1', '0', '0'])]⟩ =
      some (.asciiEncode [0x31] [0x4D, 0x56, 0x50] [0x41, 0x42, 0x53] [] [0x31, 0x30, 0x30]) := by decide

/-- P3 index 2: `07 | "B A 100 -5\r"`, here its first three characters. -/
theorem test_decode_asciiDecode :
    decoded ⟨0b00000111#8, [.seq (text ['B', ' ', 'A'])]⟩ = some (.asciiDecode [0x42, 0x20, 0x41]) := by decide

/-- P1 line 0: `08 | 205`. -/
theorem test_decode_validateAxis : decoded ⟨0b00001000#8, [.int 205]⟩ = some (.validateAxis 205) := by decide

/-- P2 line 1: `09 | 2, 55`. -/
theorem test_decode_validateGlobal :
    decoded ⟨0b00001001#8, [.int 2, .int 55]⟩ = some (.validateGlobal 2 55) := by decide

/-- P2 line 4: `0A | 56`. -/
theorem test_decode_makeGpvar : decoded ⟨0b00001010#8, [.int 56]⟩ = some (.makeGpvar 56) := by decide

/-- R62, R203: reserved selectors are named before the operands are looked at; other mismatches under their own name. -/
theorem test_decode_rejects :
    rejected ⟨0x00#8, [.int 1]⟩ = some (.unsupportedOperation 0x00#8) ∧
      rejected ⟨0x0B#8, []⟩ = some (.unsupportedOperation 0x0B#8) ∧
      rejected ⟨0xFF#8, [.seq []]⟩ = some (.unsupportedOperation 0xFF#8) ∧
      rejected ⟨0x11#8, [.seq []]⟩ = some (.unsupportedOperation 0x11#8) ∧
      rejected ⟨0x01#8, []⟩ = some (.operandMismatch 0x01#8) := by decide

/-- The table words of `opcode_table.json` with operands of zeros; a word above the selector byte is refused. -/
theorem test_table_words :
    decodeTableWord 8 0x01 = some (.checksum []) ∧ decodeTableWord 8 0x02 = some (.binEncode 0 0 0 0 0) ∧
      decodeTableWord 8 0x05 = some (.binStatus 0#8) ∧ decodeTableWord 8 0x06 = some (.asciiEncode [] [] [] [] []) ∧
      decodeTableWord 8 0x0A = some (.makeGpvar 0) ∧ decodeTableWord 8 0x00 = none ∧ decodeTableWord 16 0x0101 = none := by
  decide

/-! ### One step per operation -/

/-- L2 CHECKSUM: empty, wrap, the S10 header and the same with two bytes swapped. -/
theorem test_checksum :
    stepResult ⟨0x01#8, [.seq []]⟩ = some (.ok (.byte 0x00)) ∧
      stepResult ⟨0x01#8, [.seq [0xFF, 0xFF, 0xFF, 0xFF]]⟩ = some (.ok (.byte 0xFC)) ∧
      stepResult ⟨0x01#8, [.seq [0x01, 0x04, 0x01, 0x00, 0xFF, 0xFF, 0xFF, 0xFF]]⟩ = some (.ok (.byte 0x02)) ∧
      stepResult ⟨0x01#8, [.seq [0x04, 0x01, 0x01, 0x00, 0xFF, 0xFF, 0xFF, 0xFF]]⟩ = some (.ok (.byte 0x02)) := by decide

/-- L2 BIN_ENCODE: byte order, and out-of-range fields masked. -/
theorem test_binEncode :
    stepResult ⟨0x02#8, [.int 1, .int 4, .int 2, .int 0, .int 0x12345678]⟩ =
        some (.ok (.frame [0x01, 0x04, 0x02, 0x00, 0x12, 0x34, 0x56, 0x78, 0x1B])) ∧
      stepResult ⟨0x02#8, [.int (-1), .int 4, .int 1, .int 0, .int 0]⟩ =
        some (.ok (.frame [0xFF, 0x04, 0x01, 0x00, 0x00, 0x00, 0x00, 0x00, 0x04])) ∧
      stepResult ⟨0x02#8, [.int 256, .int 4, .int 1, .int 0, .int (-1)]⟩ =
        some (.ok (.frame [0x00, 0x04, 0x01, 0x00, 0xFF, 0xFF, 0xFF, 0xFF, 0x01])) ∧
      stepResult ⟨0x02#8, [.int 1, .int 10, .int 0, .int 2, .int 30]⟩ =
        some (.ok (.frame [0x01, 0x0A, 0x00, 0x02, 0x00, 0x00, 0x00, 0x1E, 0x2B])) := by decide

/-- L2 BIN_ENCODE_STRICT: both accepted vectors. -/
theorem test_binEncodeStrict_accepts :
    stepResult ⟨0x03#8, [.int 1, .int 4, .int 1, .int 0, .int (-1)]⟩ =
        some (.ok (.frame [0x01, 0x04, 0x01, 0x00, 0xFF, 0xFF, 0xFF, 0xFF, 0x02])) ∧
      stepResult ⟨0x03#8, [.int 1, .int 4, .int 0, .int 0, .int 2147483647]⟩ =
        some (.ok (.frame [0x01, 0x04, 0x00, 0x00, 0x7F, 0xFF, 0xFF, 0xFF, 0x81])) := by decide

/-- L2 BIN_ENCODE_STRICT: each failing field, and the first of two. -/
theorem test_binEncodeStrict_refuses :
    stepResult ⟨0x03#8, [.int 256, .int 4, .int 1, .int 0, .int 2147483648]⟩ = some (.err (.fieldOutOfRange 0)) ∧
      stepResult ⟨0x03#8, [.int 1, .int (-1), .int 1, .int 0, .int 0]⟩ = some (.err (.fieldOutOfRange 1)) ∧
      stepResult ⟨0x03#8, [.int 1, .int 4, .int 300, .int 0, .int 0]⟩ = some (.err (.fieldOutOfRange 2)) ∧
      stepResult ⟨0x03#8, [.int 1, .int 4, .int 1, .int 256, .int 0]⟩ = some (.err (.fieldOutOfRange 3)) ∧
      stepResult ⟨0x03#8, [.int 1, .int 4, .int 1, .int 0, .int 2147483648]⟩ = some (.err (.fieldOutOfRange 4)) ∧
      stepResult ⟨0x03#8, [.int 1, .int 4, .int 1, .int 0, .int (-2147483649)]⟩ = some (.err (.fieldOutOfRange 4)) := by
  decide

/-- L2 BIN_DECODE: the most negative value, and an unlisted status. -/
theorem test_binDecode_accepts :
    stepResult ⟨0x04#8, [.seq [0x02, 0x01, 0x65, 0x04, 0x80, 0x00, 0x00, 0x00, 0xEC]]⟩ =
        some (.ok (.response
          { replyAddress := 2, moduleAddress := 1, status := 101, commandId := 4, value := -2147483648, checksum := 0xEC,
            statusName := .commandLoaded, isSuccessful := true })) ∧
      stepResult ⟨0x04#8, [.seq [0x02, 0x01, 0x07, 0x04, 0x00, 0x00, 0x00, 0x00, 0x0E]]⟩ =
        some (.ok (.response
          { replyAddress := 2, moduleAddress := 1, status := 7, commandId := 4, value := 0, checksum := 0x0E,
            statusName := .unknown, isSuccessful := false })) := by decide

/-- L1 S3, S4 and L2 BIN_DECODE: a wrong ninth byte, and lengths 8, 10 and 0. -/
theorem test_binDecode_refuses :
    stepResult ⟨0x04#8, [.seq [0x01, 0x04, 0x01, 0x00, 0xFF, 0xFF, 0xFF, 0xFF, 0x03]]⟩ =
        some (.err (.checksumMismatch 0x02 0x03)) ∧
      stepResult ⟨0x04#8, [.seq [0x01, 0x04, 0x01, 0x00, 0xFF, 0xFF, 0xFF, 0xFF]]⟩ = some (.err (.malformedFrame 8)) ∧
      stepResult ⟨0x04#8, [.seq [0x01, 0x04, 0x01, 0x00, 0xFF, 0xFF, 0xFF, 0xFF, 0x02, 0x00]]⟩ =
        some (.err (.malformedFrame 10)) ∧
      stepResult ⟨0x04#8, [.seq []]⟩ = some (.err (.malformedFrame 0)) := by decide

/-- L2 BIN_STATUS. -/
theorem test_binStatus :
    stepResult ⟨0x05#8, [.int 100]⟩ = some (.ok (.status .success true)) ∧
      stepResult ⟨0x05#8, [.int 101]⟩ = some (.ok (.status .commandLoaded true)) ∧
      stepResult ⟨0x05#8, [.int 1]⟩ = some (.ok (.status .checksumWrong false)) ∧
      stepResult ⟨0x05#8, [.int 6]⟩ = some (.ok (.status .commandUnavailable false)) ∧
      stepResult ⟨0x05#8, [.int 255]⟩ = some (.ok (.status .unknown false)) := by decide

/-- L1 S8: `"1 MVP ABS, 100\r"`, byte for byte. -/
theorem test_asciiEncode_drops_empty :
    stepResult ⟨0x06#8, [.seq (text ['1']), .seq (text ['M', 'V', 'P']), .seq (text ['A', 'B', 'S']), .seq [],
        .seq (text ['1', '0', '0'])]⟩ =
      some (.ok (.line [0x31, 0x20, 0x4D, 0x56, 0x50, 0x20, 0x41, 0x42, 0x53, 0x2C, 0x20, 0x31, 0x30, 0x30, 0x0D])) := by
  decide

/-- L2 ASCII_ENCODE: nothing but the instruction (R142), and no type. -/
theorem test_asciiEncode_no_type :
    stepResult ⟨0x06#8, [.seq (text ['1']), .seq (text ['M', 'S', 'T']), .seq [], .seq [], .seq []]⟩ =
        some (.ok (.line [0x31, 0x20, 0x4D, 0x53, 0x54, 0x20, 0x0D])) ∧
      stepResult ⟨0x06#8, [.seq (text ['1']), .seq (text ['R', 'O', 'L']), .seq [], .seq (text ['0']),
          .seq (text ['5', '0', '0'])]⟩ =
        some (.ok (.line [0x31, 0x20, 0x52, 0x4F, 0x4C, 0x20, 0x30, 0x2C, 0x20, 0x35, 0x30, 0x30, 0x0D])) := by decide

/-- L2 ASCII_DECODE: leading zeros, a value beyond 32 bits with tabs, a CR as whitespace. -/
theorem test_asciiDecode_accepts :
    stepResult ⟨0x07#8, [.seq (text ['B', ' ', 'A', ' ', '0', '0', '7', ' ', '0', '0', '0', '1', '2'])]⟩ =
        some (.ok (.asciiResponse
          { host := text ['B'], client := text ['A'], status := text ['0', '0', '7'],
            value := text ['0', '0', '0', '1', '2'], statusInt := 7, valueInt := 12 })) ∧
      stepResult ⟨0x07#8, [.seq (text ['b', '\t', 'a', '\t', '1', '0', '0', '\t', '-', '2', '1', '4', '7', '4', '8', '3',
          '6', '4', '9', '\r'])]⟩ =
        some (.ok (.asciiResponse
          { host := text ['b'], client := text ['a'], status := text ['1', '0', '0'],
            value := text ['-', '2', '1', '4', '7', '4', '8', '3', '6', '4', '9'], statusInt := 100,
            valueInt := -2147483649 })) ∧
      stepResult ⟨0x07#8, [.seq (text ['B', ' ', 'A', ' ', '1', '0', '0', '\r', '5'])]⟩ =
        some (.ok (.asciiResponse
          { host := text ['B'], client := text ['A'], status := text ['1', '0', '0'], value := text ['5'],
            statusInt := 100, valueInt := 5 })) := by decide

/-- L2 ASCII_DECODE: the refused lines, one for each reason. -/
theorem test_asciiDecode_refuses :
    [ text [],
      text ['B', ' ', 'A', ' ', '1', '0', '0', '0', ' ', '5'],
      text ['B', ' ', 'A', ' ', '1', '0', '0', ' ', '-'],
      text ['B', ' ', 'A', ' ', '1', '0', '0', ' ', '5', 'x'],
      text ['B', ' ', 'A', ' ', '1', '0', '0', ' ', '5', '\r', '\n'],
      text ['B', ' ', 'A', ' ', '1', '0', '0', ' ', '5', '\r', '\r'],
      text ['B', ' ', ' ', 'A', ' ', '1', '0', '0', ' ', '5'],
      text ['B', ' ', 'A', ' ', ' ', '1', '0', '0', ' ', '5'],
      text [' ', 'B', ' ', 'A', ' ', '1', '0', '0', ' ', '5'],
      text ['1', ' ', 'A', ' ', '1', '0', '0', ' ', '5'],
      text ['B', ' ', 'A', ' ', '1', '0', '0', ' ', '+', '5'],
      text ['B', ' ', 'A', ' ', '1', '0', '0', ' ', '-', '-', '5'] ].all
        (fun l => stepResult ⟨0x07#8, [.seq l]⟩ == some (.err .malformedResponse)) = true := by decide

/-- L1 S5 and L2: 205 in; 999, -1 and 256 out. -/
theorem test_validateAxis :
    stepResult ⟨0x08#8, [.int 205]⟩ = some (.ok (.bool true)) ∧
      stepResult ⟨0x08#8, [.int 999]⟩ = some (.ok (.bool false)) ∧
      stepResult ⟨0x08#8, [.int (-1)]⟩ = some (.ok (.bool false)) ∧
      stepResult ⟨0x08#8, [.int 256]⟩ = some (.ok (.bool false)) := by decide

/-- L1 S6 and L2. -/
theorem test_validateGlobal_accepts :
    stepResult ⟨0x09#8, [.int 0, .int 64]⟩ = some (.ok (.bool true)) ∧
      stepResult ⟨0x09#8, [.int 2, .int 0]⟩ = some (.ok (.bool true)) ∧
      stepResult ⟨0x09#8, [.int 2, .int 55]⟩ = some (.ok (.bool true)) := by decide

/-- L1 S6 and L2. -/
theorem test_validateGlobal_refuses :
    stepResult ⟨0x09#8, [.int 2, .int 56]⟩ = some (.ok (.bool false)) ∧
      stepResult ⟨0x09#8, [.int 2, .int (-1)]⟩ = some (.ok (.bool false)) ∧
      stepResult ⟨0x09#8, [.int 1, .int 64]⟩ = some (.ok (.bool false)) ∧
      stepResult ⟨0x09#8, [.int 0, .int 300]⟩ = some (.ok (.bool false)) := by decide

/-- L1 S7 and L2. -/
theorem test_makeGpvar :
    stepResult ⟨0x0A#8, [.int 0]⟩ = some (.ok (.gpvar 2 0)) ∧ stepResult ⟨0x0A#8, [.int 55]⟩ = some (.ok (.gpvar 2 55)) ∧
      stepResult ⟨0x0A#8, [.int 56]⟩ = some (.err (.invalidParameter 56)) ∧
      stepResult ⟨0x0A#8, [.int (-1)]⟩ = some (.err (.invalidParameter (-1))) := by decide

/-- L2 reserved selectors. -/
theorem test_reserved_selectors :
    stepRefusal ⟨0x00#8, []⟩ = some (.unsupportedOperation 0x00#8) ∧
      stepRefusal ⟨0x0B#8, []⟩ = some (.unsupportedOperation 0x0B#8) ∧
      stepRefusal ⟨0xFF#8, []⟩ = some (.unsupportedOperation 0xFF#8) := by decide

/-! ### The host above the block -/

/-- P2, statement 4: `MAKE_GPVAR 56` ends the program in `Stopped(InvalidParameter, 56, 4)`. -/
theorem test_host_stops :
    hostOperation .makeGpvar [.lit (.int 56)] (some (text ['g'])) { HostState.start with index := 4 } =
      .ended (.stopped (.invalidParameter 56) 4) [] := by decide

/-- P2, statement 1: the operands are fields an earlier line bound. -/
theorem test_host_field_operands :
    (match hostOperation .validateGlobal
        [.ref ⟨text ['g'], some .bank⟩, .ref ⟨text ['g'], some .id⟩] (some (text ['o']))
        { HostState.start with index := 1, vars := [(text ['g'], .payload (.gpvar 2 55))] } with
      | .running h => h.vars
      | _ => []) = [(text ['g'], .payload (.gpvar 2 55)), (text ['o'], .payload (.bool true))] := by decide

/-- P3: `XCHG.A` expands to three statements, so the `HALT` after it has index 3 (R76). -/
theorem test_host_expansion :
    (expandProgram [⟨none, .xchgA (.lit (.seq [])) (.lit (.seq [])) (.lit (.seq [])) (.lit (.seq [])) (.lit (.seq [])) []
        (text ['r'])⟩, ⟨none, .plain .halt⟩])[3]? = some ⟨none, .halt⟩ := by decide

/-- R75: `BRF` on a Bool that is true goes on, on one that is false goes to its label. -/
theorem test_host_branch :
    (let prog : List (HostLine HostStmt) := [⟨none, .brf ⟨text ['v'], none⟩ (text ['d'])⟩, ⟨none, .halt⟩,
        ⟨some (text ['d']), .halt⟩]
     let at0 (b : Bool) : HostState := { HostState.start with vars := [(text ['v'], .payload (.bool b))] }
     (hostStep prog (at0 true), hostStep prog (at0 false)) =
      (.running { at0 true with index := 1 }, .running { at0 false with index := 2 })) := by decide

/-! ### The duties of the host, with one case each way -/

/-- R222 as log 17 reads it: an encoder opens an exchange and a decoder closes it, whatever their results. -/
theorem test_duty_serialized :
    exchangesSerialized false [.validateAxis, .binEncode, .binDecode, .binStatus, .asciiEncode, .asciiDecode] = true ∧
      exchangesSerialized false [.binEncode, .binEncode, .binDecode] = false ∧
      exchangesSerialized false [.binDecode] = false := by decide

/-- R223: a read that timed out is not decodable, even where its bytes were made up to 9. -/
theorem test_duty_torn_read :
    (TransportRead.complete (text ['B'])).decodable = some (text ['B']) ∧
      (TransportRead.timedOut (List.replicate 9 0#8)).decodable = none ∧
      completeFrame (List.replicate 9 0#8) = true := by decide

theorem test_duty_variant :
    oneVariant [.validateAxis, .binEncode, .binDecode] = true ∧ oneVariant [.binEncode, .asciiDecode] = false := by decide

theorem test_duty_fields :
    fieldsInRange 255 0 0 0 (-2147483648) = true ∧ fieldsInRange 256 0 0 0 0 = false ∧
      asciiFieldClean (text ['1', '0']) = true ∧ asciiFieldClean (text ['1', '\r']) = false ∧
      asciiFieldClean (text ['1', ' ']) = false ∧ completeFrame [0, 0] = false := by decide

/-! ### Witnesses: the hypotheses of each statement can be met -/

theorem test_witness_ChecksumIgnoresOrder : List.Perm [0x01#8, 0x04#8] [0x04#8, 0x01#8] := by decide

theorem test_witness_ChecksumSeesEverySingleByteChange : (0x00#8 : Byte) ≠ 0xFF#8 := by decide

/-- The fields at the edges of their ranges, and each clause's first value outside. -/
theorem test_witness_BinEncodeStrictNamesFirstBadField :
    strictResult 255 0 255 0 (-2 ^ 31) = .ok (.frame (requestFrame 255 0 255 0 (-2 ^ 31))) ∧
      strictResult 256 0 0 0 0 = .err (.fieldOutOfRange 0) ∧ strictResult 0 (-1) 0 0 0 = .err (.fieldOutOfRange 1) ∧
      strictResult 0 0 256 0 0 = .err (.fieldOutOfRange 2) ∧ strictResult 0 0 0 (-1) 0 = .err (.fieldOutOfRange 3) ∧
      strictResult 0 0 0 0 (2 ^ 31) = .err (.fieldOutOfRange 4) := by decide

/-- Lengths next to 9, and a right and a wrong ninth byte. -/
theorem test_witness_BinDecodeChecksLengthThenChecksum :
    (List.replicate 8 0#8).length ≠ 9 ∧ (List.replicate 10 0#8).length ≠ 9 ∧
      checksum (List.replicate 8 0xFF#8) = 0xF8#8 ∧ checksum (List.replicate 8 0#8) ≠ 0x01#8 := by decide

theorem test_witness_BinFrameHasOneValidNinthByte : (List.replicate 8 0xFF#8).length = 8 := by decide

theorem test_witness_BinRoundTripInRange :
    ((0 : Int) ≤ 0 ∧ (0 : Int) ≤ 255) ∧ ((0 : Int) ≤ 255 ∧ (255 : Int) ≤ 255) ∧
      (-2 ^ 31 ≤ (-2 ^ 31 : Int) ∧ (-2 ^ 31 : Int) ≤ 2 ^ 31 - 1) ∧
      (-2 ^ 31 ≤ (2 ^ 31 - 1 : Int) ∧ (2 ^ 31 - 1 : Int) ≤ 2 ^ 31 - 1) := by decide

/-- The all-zero frame is accepted (R112), and its ninth byte, at index 8, is not 1. -/
theorem test_witness_BinCorruptionIsAlwaysCaught :
    exec (.binDecode (List.replicate 9 0#8)) State.reset =
        .next { State.reset with latch := some (.ok (.response (responseOf 0 0 0 0 0 0 0 0 0))) } ∧
      8 < 9 ∧ (List.replicate 9 0#8)[8]? ≠ some 0x01#8 := by
  refine ⟨rfl, ?_, ?_⟩ <;> decide

theorem test_witness_DeviceStatusIsNoBlockError : (0x01#8 : Byte) ≠ 100#8 ∧ (0x01#8 : Byte) ≠ 101#8 := by decide

theorem test_witness_AsciiEncodeShape :
    ([] : Str) = [] ∨ inAsciiTypeSet [] = true := by decide

theorem test_witness_AsciiEncodeShape_named :
    text ['A', 'B', 'S'] = [] ∨ inAsciiTypeSet (text ['A', 'B', 'S']) = true := by decide

/-- A line of the grammar at the edges of its classes and lengths. -/
theorem test_witness_AsciiDecodeMatchesExactlyTheGrammar :
    isLetter 0x41#8 = true ∧ isWS 0x0D#8 = true ∧ isLetter 0x7A#8 = true ∧ isWS 0x20#8 = true ∧
      1 ≤ (text ['0', '9', '0']).length ∧ (text ['0', '9', '0']).length ≤ 3 ∧ (text ['0', '9', '0']).all isDigit = true ∧
      isWS 0x09#8 = true ∧ text ['0'] ≠ [] ∧ (text ['0']).all isDigit = true := by decide

/-- A line of no form of the grammar. -/
theorem test_witness_AsciiDecodeMatchesExactlyTheGrammar_rejects :
    ¬∃ (host w1 client w2 w3 : Byte) (status digits trailer : Str) (negative : Bool),
      isLetter host = true ∧ isWS w1 = true ∧ isLetter client = true ∧ isWS w2 = true ∧
      1 ≤ status.length ∧ status.length ≤ 3 ∧ status.all isDigit = true ∧ isWS w3 = true ∧
      digits ≠ [] ∧ digits.all isDigit = true ∧ (trailer = [] ∨ trailer = [0x0D#8]) ∧
      ([0x42#8] : Str) =
        [host, w1, client, w2] ++ status ++ [w3] ++ (if negative then [0x2D#8] else []) ++ digits ++ trailer := by
  rintro ⟨_, _, _, _, _, _, _, _, _, -, -, -, -, -, -, -, -, -, -, -, h⟩
  simp at h

theorem test_witness_MakeGpvarFormsBankTwoAddresses :
    ((0 : Int) ≤ 0 ∧ (0 : Int) ≤ 55) ∧ ((0 : Int) ≤ 55 ∧ (55 : Int) ≤ 55) ∧ ¬((0 : Int) ≤ 56 ∧ (56 : Int) ≤ 55) ∧
      ¬((0 : Int) ≤ -1 ∧ (-1 : Int) ≤ 55) := by decide

theorem test_witness_GpvarAgreesWithValidateGlobal :
    exec (.validateGlobal 2 55) State.reset = .next { State.reset with latch := some (.ok (.bool true)) } ∧
      exec (.makeGpvar 55) State.reset = .next { State.reset with latch := some (.ok (.gpvar 2#8 55#8)) } := ⟨rfl, rfl⟩

theorem test_witness_ErrorsBelongToTheirOperations :
    exec (.makeGpvar 56) State.reset = .next { State.reset with latch := some (.err (.invalidParameter 56)) } ∧
      exec (.binDecode []) State.reset = .next { State.reset with latch := some (.err (.malformedFrame 0)) } ∧
      exec (.asciiDecode []) State.reset = .next { State.reset with latch := some (.err .malformedResponse) } ∧
      exec (.binEncodeStrict 256 0 0 0 0) State.reset =
        .next { State.reset with latch := some (.err (.fieldOutOfRange 0)) } := ⟨rfl, rfl, rfl, rfl⟩

theorem test_witness_EveryAnswerIsLegal :
    exec (.checksum []) State.reset = .next { State.reset with latch := some (.ok (.byte 0#8)) } := rfl

theorem test_witness_StepRunsTheDecodedOperation : decode ⟨0x0A#8, [.int 55]⟩ = .ok (.makeGpvar 55) := rfl

theorem test_witness_ReservedSelectorsAreRefused :
    ((0#8 : Byte) = 0#8 ∨ 0x0B ≤ (0#8 : Byte).toNat) ∧ ((0x0B#8 : Byte) = 0#8 ∨ 0x0B ≤ (0x0B#8 : Byte).toNat) ∧
      ((0xFF#8 : Byte) = 0#8 ∨ 0x0B ≤ (0xFF#8 : Byte).toNat) := by decide

theorem test_witness_DecodeAcceptsExactlyTheRequests :
    Request.wellFormed ⟨0x0A#8, []⟩ = false ∧ 1 ≤ (0x0A#8 : Byte).toNat ∧ (0x0A#8 : Byte).toNat ≤ 0x0A ∧
      Request.wellFormed ⟨0x01#8, []⟩ = false ∧ Request.wellFormed ⟨0x01#8, [.seq []]⟩ = true := by decide

theorem test_witness_DecodeEncodeAgree : decode ⟨0x05#8, [.int 255]⟩ = .ok (.binStatus 255#8) := rfl

/-- A state with a waiting request whose latch holds a legal value, and the state its step leaves. -/
theorem test_witness_StepKeepsTheLatchInvariant :
    State.Inv { requests := [⟨0x01#8, [.seq [0x07]]⟩], latch := some (.ok (.bool true)) } ∧
      step { requests := [⟨0x01#8, [.seq [0x07]]⟩], latch := some (.ok (.bool true)) } =
        .next { requests := [], latch := some (.ok (.byte 0x07)) } := by
  refine ⟨?_, rfl⟩
  rintro r h
  obtain rfl := Option.some.inj h
  trivial

theorem test_witness_TableWordIsRunNext : decodeTableWord 8 0x08 = some (.validateAxis 0) := by decide

theorem test_witness_HostOperationBindsOrStops :
    decode ⟨Opcode.makeGpvar.selector, [.int 55]⟩ = .ok (.makeGpvar 55) ∧ HostState.start.block.requests = [] := ⟨rfl, rfl⟩

end Sys2Proof.Tests
end

