-- ==== Sys2Proof/Proofs/Latch.lean ====
section
/-! PROOFS. The result latch (rule R22): it has no value after reset, and after any operation it holds that operation's
result. -/

namespace Sys2Proof.Machine

theorem readLatch_of_none (s : State) (h : s.latch = none) : s.readLatch = .fault .latchHasNoValue := by
  simp [State.readLatch, h]

/-- Every operation ends in a next state: its result, fixed by its operands alone, is in the latch, and nothing else
changes (R48). -/
theorem exec_answers (i : Instr) : ∃ r : Result, ∀ s : State, exec i s = .next { s with latch := some r } := by
  cases i with
  | checksum bs => exact ⟨_, exec_checksum bs⟩
  | binEncode a c t m v => exact ⟨_, exec_binEncode a c t m v⟩
  | binEncodeStrict a c t m v => exact ⟨_, exec_binEncodeStrict a c t m v⟩
  | binDecode bs => exact ⟨_, exec_binDecode bs⟩
  | binStatus status => exact ⟨_, exec_binStatus status⟩
  | asciiEncode address instruction type bank value => exact ⟨_, exec_asciiEncode address instruction type bank value⟩
  | asciiDecode line => exact ⟨_, exec_asciiDecode line⟩
  | validateAxis id => exact ⟨_, exec_validateAxis id⟩
  | validateGlobal bank id => exact ⟨_, exec_validateGlobal bank id⟩
  | makeGpvar id => exact ⟨_, exec_makeGpvar id⟩

/-- Settles O30: reset leaves the latch empty, and every operation leaves its result there. -/
theorem latchHasNoValueUntilAnOperation : Obligations.LatchHasNoValueUntilAnOperation := by
  refine ⟨readLatch_of_none _ reset_latch, fun s => ?_, fun i s => ?_⟩
  · rw [applyReset_eq]
    exact readLatch_of_none _ reset_latch
  · obtain ⟨r, hr⟩ := exec_answers i
    exact ⟨{ s with latch := some r }, r, hr s, readLatch_of_some _ r rfl, rfl⟩

end Sys2Proof.Machine
end

