-- ==== Sys2Proof/Proofs/Purity.lean ====
section
/-! PROOFS. Purity of the operations (rule R48): repeating an operation with the same operands gives the same result,
whatever the state, and only the latch is written. -/

namespace Sys2Proof.Machine

/-- Settles O22: it is what `exec_answers` says of each operation, case by case from the meanings of the ten units. -/
theorem operationsArePure : Obligations.OperationsArePure := exec_answers

end Sys2Proof.Machine
end

section
/-! PROOFS. Requests and their answers: reserved selectors are refused (rules R62 and R205); each unit forms only legal
results (`Result.legal`), so every operation leaves one in the latch, and every step keeps the latch invariant. -/

namespace Sys2Proof.Machine

/-! ### Reserved selectors (R62, R205) -/

/-- R62, R203: a reserved selector is named before the operands are looked at. -/
theorem decode_of_reserved (opsel : Byte) (operands : List Operand) (h : opsel = 0#8 ∨ 0x0B ≤ opsel.toNat) :
    decode ⟨opsel, operands⟩ = .error (.unsupportedOperation opsel) := by
  have hnone : Opcode.ofSelector opsel = none :=
    (ofSelector_eq_none opsel).2 (h.imp_left (congrArg BitVec.toNat))
  simp only [decode, hnone]

/-- Settles O26: decoding rejects the selector, and a step refuses what decoding rejects. -/
theorem reservedSelectorsAreRefused : Obligations.ReservedSelectorsAreRefused :=
  fun opsel operands rest l h => step_of_decode _ rest l _ (decode_of_reserved opsel operands h)

/-! ### The binary codec (R63 to R67, R110 to R113) -/

/-- R67, R110: an encoded frame has 9 bytes, and its last is the checksum of the others. -/
theorem validFrame_requestFrame (a c t m v : Int) : validFrame (requestFrame a c t m v) := ⟨rfl, rfl⟩

theorem strictResult_legal (a c t m v : Int) : (strictResult a c t m v).legal := by
  unfold strictResult
  split
  · trivial
  · exact validFrame_requestFrame a c t m v

/-- R65, R66: four bytes, read as a word and written again, are the same four bytes. -/
theorem wordBytes_wordOfBytes (b4 b5 b6 b7 : Byte) : wordBytes (wordOfBytes b4 b5 b6 b7) = [b4, b5, b6, b7] := by
  have h4 := b4.isLt
  have h5 := b5.isLt
  have h6 := b6.isLt
  have h7 := b7.isLt
  simp only [wordBytes, List.cons.injEq, ← BitVec.toNat_inj, BitVec.extractLsb'_toNat, wordOfBytes_toNat,
    Nat.shiftRight_eq_div_pow, and_true]
  omega

/-- R112: the record of a frame that passed the checksum carries what the frame carried. -/
theorem responseOf_legal (b0 b1 b2 b3 b4 b5 b6 b7 b8 : Byte) (h : b8 = checksum [b0, b1, b2, b3, b4, b5, b6, b7]) :
    (responseOf b0 b1 b2 b3 b4 b5 b6 b7 b8).legal := by
  refine ⟨?_, (inI32_iff _).2 (sext32_range _), rfl, rfl⟩
  simp only [responseOf, maskWord_sext32, wordBytes_wordOfBytes]
  exact h

theorem decodeFrame_legal (bs : Bytes) : (decodeFrame bs).legal := by
  by_cases hlen : bs.length = 9
  · match bs, hlen with
    | [b0, b1, b2, b3, b4, b5, b6, b7, b8], _ =>
      by_cases hsum : b8 = checksum [b0, b1, b2, b3, b4, b5, b6, b7]
      · rw [decodeFrame_append_eq _ _ _ _ _ _ _ _ _ hsum]
        exact responseOf_legal _ _ _ _ _ _ _ _ _ hsum
      · have herr : decodeFrame [b0, b1, b2, b3, b4, b5, b6, b7, b8] = .err (.checksumMismatch _ b8) :=
          decodeFrame_append_ne [b0, b1, b2, b3, b4, b5, b6, b7] b8 rfl hsum
        rw [herr]
        exact Ne.symm hsum
  · rw [decodeFrame_of_length_ne bs hlen]
    exact hlen

/-- R28: the flag says that the name is one of the two that stand for success. -/
theorem isSuccessful_iff_classify (b : Byte) :
    isSuccessful b = true ↔ classify b = .success ∨ classify b = .commandLoaded := by
  revert b
  decide

/-! ### The ASCII codec (R140 to R146) -/

theorem requestLine_getLast? (address instruction type bank value : Str) :
    (requestLine address instruction type bank value).getLast? = some Config.asciiCR :=
  List.getLast?_concat

/-- R146: the spaces around the instruction are in the line. -/
theorem two_le_count_space_requestLine (address instruction type bank value : Str) :
    2 ≤ (requestLine address instruction type bank value).count Config.asciiSpace := by
  simp only [requestLine, List.count_append, List.count_singleton_self]
  omega

theorem encodeLine_legal (address instruction type bank value : Str) :
    (encodeLine address instruction type bank value).legal := by
  by_cases h : type = [] ∨ inAsciiTypeSet type = true
  · rw [encodeLine_of_allowed _ _ _ _ _ h]
    exact ⟨requestLine_getLast? .., two_le_count_space_requestLine ..⟩
  · obtain ⟨hne, hset⟩ := not_or.1 h
    rw [Bool.not_eq_true] at hset
    have herr : encodeLine address instruction type bank value = .err (.unsupportedType type) := by
      simp [encodeLine, hne, hset]
    rw [herr]
    exact ⟨hne, hset⟩

theorem splitValue_digits_all (l : Str) : (splitValue l).2.1.all isDigit = true := by
  unfold splitValue
  split
  · rfl
  · split <;> exact digitRun_all _

/-- R143, R144: a matched value part gives its sign, its digits and the integer they denote. -/
theorem matchValue_legal (host client : Byte) (status l : Str) (r : AsciiResponse) (hhost : isLetter host = true)
    (hclient : isLetter client = true) (hpos : 1 ≤ status.length) (hle : status.length ≤ 3)
    (hstatus : status.all isDigit = true) (h : matchValue host client status l = some r) : r.legal := by
  have hdigits := splitValue_digits_all l
  rcases hsplit : splitValue l with ⟨negative, digits, trailer⟩
  rw [hsplit] at hdigits
  simp only [matchValue, hsplit, Option.ite_none_right_eq_some, Bool.and_eq_true, Option.some.injEq] at h
  obtain ⟨⟨hne, -⟩, rfl⟩ := h
  refine ⟨⟨host, rfl, hhost⟩, ⟨client, rfl, hclient⟩, ⟨hpos, hle, hstatus⟩, rfl, digits, by simpa using hne,
    hdigits, ?_⟩
  cases negative
  · exact .inl ⟨rfl, rfl⟩
  · exact .inr ⟨rfl, rfl⟩

theorem matchStatus_legal (host client : Byte) (l : Str) (r : AsciiResponse) (hhost : isLetter host = true)
    (hclient : isLetter client = true) (h : matchStatus host client l = some r) : r.legal := by
  unfold matchStatus at h
  split at h
  case isFalse => simp at h
  case isTrue hlen =>
    split at h
    · simp at h
    · rw [Option.ite_none_right_eq_some] at h
      exact matchValue_legal host client _ _ r hhost hclient hlen.1 hlen.2 (digitRun_all l) h.2

theorem matchLine_legal (l : Str) (r : AsciiResponse) (h : matchLine l = some r) : r.legal := by
  unfold matchLine at h
  split at h
  · simp only [Option.ite_none_right_eq_some, Bool.and_eq_true] at h
    obtain ⟨⟨⟨⟨hhost, -⟩, hclient⟩, -⟩, hrest⟩ := h
    exact matchStatus_legal _ _ _ r hhost hclient hrest
  · simp at h

theorem decodeLine_legal (line : Str) : (decodeLine line).legal := by
  unfold decodeLine
  split
  case h_1 r hr => exact matchLine_legal line r hr
  case h_2 => trivial

/-! ### The parameter table (R174, R175) -/

theorem gpvarResult_legal (id : Int) : (gpvarResult id).legal := by
  unfold gpvarResult
  split
  case isTrue h =>
    have hrange : 0 ≤ id ∧ id ≤ 55 := of_decide_eq_true h
    have hid := maskByte_toNat id
    exact ⟨rfl, by omega⟩
  case isFalse h => exact fun hrange => h (decide_eq_true hrange)

/-! ### All operations -/

/-- Every operation leaves in the latch, whatever the state, one result, and it is a legal one. -/
theorem exec_answers_legal (i : Instr) :
    ∃ r : Result, (∀ s : State, exec i s = .next { s with latch := some r }) ∧ r.legal := by
  cases i with
  | checksum bs => exact ⟨_, exec_checksum bs, trivial⟩
  | binEncode a c t m v => exact ⟨_, exec_binEncode a c t m v, validFrame_requestFrame a c t m v⟩
  | binEncodeStrict a c t m v => exact ⟨_, exec_binEncodeStrict a c t m v, strictResult_legal a c t m v⟩
  | binDecode bs => exact ⟨_, exec_binDecode bs, decodeFrame_legal bs⟩
  | binStatus status => exact ⟨_, exec_binStatus status, isSuccessful_iff_classify status⟩
  | asciiEncode address instruction type bank value =>
    exact ⟨_, exec_asciiEncode address instruction type bank value,
      encodeLine_legal address instruction type bank value⟩
  | asciiDecode line => exact ⟨_, exec_asciiDecode line, decodeLine_legal line⟩
  | validateAxis id => exact ⟨_, exec_validateAxis id, trivial⟩
  | validateGlobal bank id => exact ⟨_, exec_validateGlobal bank id, trivial⟩
  | makeGpvar id => exact ⟨_, exec_makeGpvar id, gpvarResult_legal id⟩

/-- An operation sets up the latch invariant, whether or not it held before. -/
theorem exec_next_inv (i : Instr) (s t : State) (h : exec i s = .next t) : t.Inv := by
  obtain ⟨r, hr, hlegal⟩ := exec_answers_legal i
  rw [hr s] at h
  cases h
  rintro _ ⟨⟩
  exact hlegal

/-- Settles O24: the state an operation leaves meets the invariant, and the result is what its latch holds. -/
theorem everyAnswerIsLegal : Obligations.EveryAnswerIsLegal :=
  fun i s r h => exec_next_inv i s _ h r rfl

/-- Settles O32: a step changes nothing, or it runs an operation on the state without the oldest request. -/
theorem stepKeepsTheLatchInvariant : Obligations.StepKeepsTheLatchInvariant := by
  intro s t hs h
  obtain ⟨-, rfl⟩ | ⟨_, _, i, -, -, hexec⟩ := step_next_cases s t h
  · exact hs
  · exact exec_next_inv i _ t hexec

end Sys2Proof.Machine
end

section
/-! PROOFS. The Checksum Unit (rule R100): the unbounded sum taken modulo 256 and the 8-bit accumulator are one byte. -/

namespace Sys2Proof.Machine

/-- An 8-bit accumulator adds the checksum of the bytes to the byte it starts at (R100, R104). -/
theorem foldl_add_eq_add_checksum (bs : Bytes) (start : Byte) :
    bs.foldl (fun acc b => acc + b) start = start + checksum bs := by
  induction bs generalizing start with
  | nil => simp
  | cons b bs ih => simp [ih, BitVec.add_assoc]

/-- R100: the checksum is what an 8-bit accumulator that starts at 0 ends with. -/
theorem checksum_eq_foldl_add (bs : Bytes) : checksum bs = bs.foldl (fun acc b => acc + b) 0#8 := by
  rw [foldl_add_eq_add_checksum, BitVec.zero_add]

/-- Settles O1: the byte is the checksum, by its value as a sum (`checksum_toNat`) and as an accumulator. -/
theorem checksumIsSumModulo256 : Obligations.ChecksumIsSumModulo256 :=
  fun bs s => ⟨rfl, checksum bs, checksum_toNat bs, checksum_eq_foldl_add bs, exec_checksum bs s⟩

end Sys2Proof.Machine
end

section
/-! PROOFS. The Binary Message Codec: the bytes of an encoded frame (rules R63 and R110), the strict encoder's range check
(R111), the frame decoder (R64, R66 and R112) and the status table (R26 to R28 and R113). -/

namespace Sys2Proof.Machine

/-- Bytes as the integers they stand for, the form in which R63 and R110 give a frame. -/
def byteInts (bs : Bytes) : List Int := bs.map fun b => (b.toNat : Int)

/-! ### BIN_ENCODE (R63, R110) -/

/-- The eight bytes of a request frame before its checksum byte (R63). -/
def requestHeader (a c t m v : Int) : Bytes :=
  [maskByte a, maskByte c, maskByte t, maskByte m] ++ wordBytes (maskWord v)

theorem requestFrame_eq_header_append (a c t m v : Int) :
    requestFrame a c t m v = requestHeader a c t m v ++ [checksum (requestHeader a c t m v)] := rfl

/-- R65: the four bytes of a word are its base-256 digits, most significant first. -/
theorem byteInts_wordBytes (u : Word32) :
    byteInts (wordBytes u) =
      [(u.toNat : Int) / 2 ^ 24, (u.toNat : Int) / 2 ^ 16 % 256, (u.toNat : Int) / 2 ^ 8 % 256, (u.toNat : Int) % 256] := by
  have hu := u.isLt
  simp only [byteInts, wordBytes, List.map_cons, List.map_nil, BitVec.extractLsb'_toNat, Nat.shiftRight_eq_div_pow,
    List.cons.injEq, and_true]
  omega

theorem byteInts_requestHeader (a c t m v : Int) :
    byteInts (requestHeader a c t m v) =
      [a % 256, c % 256, t % 256, m % 256,
        v % 2 ^ 32 / 2 ^ 24, v % 2 ^ 32 / 2 ^ 16 % 256, v % 2 ^ 32 / 2 ^ 8 % 256, v % 2 ^ 32 % 256] := by
  have hword := byteInts_wordBytes (maskWord v)
  rw [maskWord_toNat] at hword
  have happend : byteInts (requestHeader a c t m v) =
      byteInts [maskByte a, maskByte c, maskByte t, maskByte m] ++ byteInts (wordBytes (maskWord v)) := List.map_append
  rw [happend, hword]
  simp only [byteInts, List.map_cons, List.map_nil, maskByte_toNat, List.cons_append, List.nil_append]

/-- R100 over the integers. -/
theorem checksum_toNat_eq_sum_byteInts (bs : Bytes) : ((checksum bs).toNat : Int) = (byteInts bs).sum % 256 := by
  rw [checksum_toNat, Int.natCast_mod, Nat.cast_list_sum, List.map_map]
  rfl

/-- R110: the nine bytes of an encoded frame are those of its header and their sum modulo 256. -/
theorem byteInts_requestFrame (a c t m v : Int) :
    byteInts (requestFrame a c t m v) =
      byteInts (requestHeader a c t m v) ++ [(byteInts (requestHeader a c t m v)).sum % 256] := by
  rw [requestFrame_eq_header_append, ← checksum_toNat_eq_sum_byteInts]
  exact List.map_append

/-- Settles O5: the frame's bytes are its header's and their sum (`byteInts_requestFrame`), and the header's are the masked
fields (`byteInts_requestHeader`). -/
theorem binEncodeMasksEveryField : Obligations.BinEncodeMasksEveryField := by
  refine fun a c t m v s => ⟨rfl, requestFrame a c t m v, exec_binEncode a c t m v s, ?_⟩
  have hframe := byteInts_requestFrame a c t m v
  rw [byteInts_requestHeader] at hframe
  simpa only [byteInts, List.sum_cons, List.sum_nil, add_zero, add_assoc, List.cons_append, List.nil_append] using hframe

/-! ### BIN_ENCODE_STRICT (R111) -/

theorem exec_binEncodeStrict_of_bad_field (a c t m v : Int) (s : State) (i : Fin 5)
    (h : firstOutOfRange a c t m v = some i) :
    exec (.binEncodeStrict a c t m v) s = .next { s with latch := some (.err (.fieldOutOfRange i)) } := by
  rw [exec_binEncodeStrict, strictResult, h]

theorem exec_binEncodeStrict_of_in_range (a c t m v : Int) (s : State) (h : firstOutOfRange a c t m v = none) :
    exec (.binEncodeStrict a c t m v) s = exec (.binEncode a c t m v) s := by
  rw [exec_binEncodeStrict, exec_binEncode, strictResult, h]

/-- Settles O6: the statement's chain of ranges is the one by which the first bad field is found (`firstOutOfRange_eq`). -/
theorem binEncodeStrictNamesFirstBadField : Obligations.BinEncodeStrictNamesFirstBadField := by
  refine fun a c t m v s => ⟨rfl, ?_⟩
  have hfirst := firstOutOfRange_eq a c t m v
  split_ifs at hfirst ⊢
  case pos =>
    have hencode := exec_binEncode a c t m v s
    exact ⟨requestFrame a c t m v, (exec_binEncodeStrict_of_in_range a c t m v s hfirst).trans hencode, hencode⟩
  all_goals exact exec_binEncodeStrict_of_bad_field a c t m v s _ hfirst

/-! ### BIN_DECODE (R64, R66, R112) -/

/-- R66: four bytes as a signed big-endian integer. -/
theorem sext32_wordOfBytes (b4 b5 b6 b7 : Byte) (u : Int)
    (hu : u = b4.toNat * 2 ^ 24 + b5.toNat * 2 ^ 16 + b6.toNat * 2 ^ 8 + b7.toNat) :
    sext32 (wordOfBytes b4 b5 b6 b7) = if u < 2 ^ 31 then u else u - 2 ^ 32 := by
  have hword : ((wordOfBytes b4 b5 b6 b7).toNat : Int) = u := by
    rw [hu]
    exact_mod_cast wordOfBytes_toNat b4 b5 b6 b7
  rw [sext32_eq, hword]

theorem isSuccessful_eq_decide (b : Byte) : isSuccessful b = decide (b = 100#8 ∨ b = 101#8) := by
  rw [isSuccessful, Bool.decide_or, beq_eq_decide, beq_eq_decide]

/-- R100 for the eight bytes before a frame's checksum byte, the sum written out. -/
theorem checksum_eight_bytes (b0 b1 b2 b3 b4 b5 b6 b7 : Byte) :
    checksum [b0, b1, b2, b3, b4, b5, b6, b7] =
      BitVec.ofNat 8 ((b0.toNat + b1.toNat + b2.toNat + b3.toNat + b4.toNat + b5.toNat + b6.toNat + b7.toNat) % 256) := by
  simp only [checksum, List.foldl_cons, List.foldl_nil, Nat.zero_add]

/-- Settles O8: the decoder's three results (`decodeFrame_of_length_ne`, `decodeFrame_append_ne`,
`decodeFrame_append_eq`), the checksum and the value computed from the bytes. -/
theorem binDecodeChecksLengthThenChecksum : Obligations.BinDecodeChecksLengthThenChecksum := by
  refine ⟨fun bs => rfl, fun bs s hlen => ?_, fun b0 b1 b2 b3 b4 b5 b6 b7 b8 s => ?_⟩
  · rw [exec_binDecode, decodeFrame_of_length_ne bs hlen]
  · intro expect u
    have hexpect : checksum [b0, b1, b2, b3, b4, b5, b6, b7] = expect := checksum_eight_bytes ..
    rw [exec_binDecode, ← hexpect, ← sext32_wordOfBytes b4 b5 b6 b7 u rfl, ← isSuccessful_eq_decide]
    constructor
    · intro hbad
      have herr : decodeFrame [b0, b1, b2, b3, b4, b5, b6, b7, b8] = .err (.checksumMismatch _ b8) :=
        decodeFrame_append_ne [b0, b1, b2, b3, b4, b5, b6, b7] b8 rfl hbad
      rw [herr]
    · intro hgood
      rw [decodeFrame_append_eq _ _ _ _ _ _ _ _ _ hgood, responseOf]

/-! ### BIN_STATUS (R26 to R28, R113) -/

/-- A status byte travels as the integer it stands for (R8, R61). -/
theorem decode_binStatus_toNat (status : Byte) : decode ⟨0x05#8, [.int status.toNat]⟩ = .ok (.binStatus status) := by
  have hoperands : decodeOperands .binStatus [.int status.toNat] = some (.binStatus status) := by
    rw [decodeOperands, if_pos (byte_toNat_range status), BitVec.ofInt_natCast, BitVec.ofNat_toNat, BitVec.setWidth_eq]
  have hselector : Opcode.ofSelector 0x05#8 = some .binStatus := ofSelector_selector .binStatus
  simp only [decode, hselector, hoperands]

/-- The status bytes `Status` has a member for (R26). -/
def listedStatuses : List Byte := [100#8, 101#8, 1#8, 2#8, 3#8, 4#8, 5#8, 6#8]

/-- R27, R28: every byte outside the table is `Unknown` and not successful. -/
theorem status_of_unlisted (b : Byte) (h : b ∉ listedStatuses) : classify b = .unknown ∧ isSuccessful b = false := by
  revert b
  decide

/-- Settles O13: the eight rows of the table by evaluation, and every other byte by `status_of_unlisted`. -/
theorem binStatusFollowsTheTable : Obligations.BinStatusFollowsTheTable := by
  refine fun status s => ⟨decode_binStatus_toNat status, ?_⟩
  rw [exec_binStatus]
  split_ifs
  case neg =>
    obtain ⟨hname, hflag⟩ := status_of_unlisted status (by simp [listedStatuses, *])
    rw [hname, hflag]
  all_goals
    subst status
    rfl

end Sys2Proof.Machine
end

section
/-! PROOFS. The ASCII Message Codec: the request line and its type check (rules R140 to R142), and the response grammar
(R71, R143) in both directions, with the integers of R144. -/

namespace Sys2Proof.Machine

/-! ### ASCII_ENCODE (R140 to R142) -/

/-- R141: the type check decides between the line and the error. -/
theorem encodeLine_eq (address instruction type bank value : Str) :
    encodeLine address instruction type bank value =
      if type = [] ∨ inAsciiTypeSet type = true then .ok (.line (requestLine address instruction type bank value))
      else .err (.unsupportedType type) := by
  simp only [encodeLine, Bool.or_eq_true, List.isEmpty_iff]

/-- R140 with the library's intercalation for R9's `join`. -/
theorem requestLine_eq_intercalate (address instruction type bank value : Str) :
    requestLine address instruction type bank value =
      address ++ [0x20#8] ++ instruction ++ [0x20#8] ++
        List.intercalate [0x2C#8, 0x20#8] ([type, bank, value].filter (fun p => decide (0 < p.length))) ++
        [0x0D#8] := by
  rw [requestLine, joinWith_eq, nonEmptyParts_eq]

/-- R142: without arguments the space after the instruction stays. -/
theorem requestLine_no_arguments (address instruction : Str) :
    requestLine address instruction [] [] [] = address ++ [0x20#8] ++ instruction ++ [0x20#8, 0x0D#8] := by
  have hargs : joinWith Config.asciiSeparator (nonEmptyParts [[], [], []]) = [] := rfl
  simp only [requestLine, hargs, List.append_assoc, List.append_nil, List.cons_append, List.nil_append]

/-- Settles O15: the type check (`encodeLine_eq`), then the line (`requestLine_eq_intercalate`), which for three empty
arguments ends in space and CR (`requestLine_no_arguments`). -/
theorem asciiEncodeJoinsNonEmptyFields : Obligations.AsciiEncodeJoinsNonEmptyFields := by
  refine ⟨rfl, fun address instruction type bank value s => ⟨rfl, ?_, ?_⟩⟩
  · rw [exec_asciiEncode, encodeLine_eq, requestLine_eq_intercalate]
  · rw [exec_asciiEncode, encodeLine_of_allowed _ _ _ _ _ (.inl rfl), requestLine_no_arguments]

/-! ### The byte classes of a response line (R15) -/

theorem isLetter_iff (b : Byte) :
    isLetter b = true ↔ (0x41 ≤ b.toNat ∧ b.toNat ≤ 0x5A) ∨ (0x61 ≤ b.toNat ∧ b.toNat ≤ 0x7A) := by
  rw [isLetter, Bool.or_eq_true, decide_eq_true_iff, decide_eq_true_iff]

theorem isDigit_iff (b : Byte) : isDigit b = true ↔ 0x30 ≤ b.toNat ∧ b.toNat ≤ 0x39 := decide_eq_true_iff

theorem isWS_iff (b : Byte) :
    isWS b = true ↔ b = 0x20#8 ∨ b = 0x09#8 ∨ b = 0x0A#8 ∨ b = 0x0B#8 ∨ b = 0x0C#8 ∨ b = 0x0D#8 := by
  simp [isWS]

/-! ### ASCII_DECODE accepts every line of the grammar (R71, R143, R144) -/

/-- The optional minus before the digits of a value (R71). -/
def valueSign (negative : Bool) : Str := if negative then [0x2D#8] else []

/-- A trailer holds no digit, so the digits before it end where it begins. -/
theorem digits_append_trailer (digits trailer : Str) (hdigits : digits.all isDigit = true)
    (htrailer : trailer = [] ∨ trailer = [0x0D#8]) :
    digitRun (digits ++ trailer) = digits ∧ afterDigits (digits ++ trailer) = trailer := by
  rcases htrailer with rfl | rfl
  · rw [List.append_nil]
    exact digits_all digits hdigits
  · exact digits_append_cons digits 0x0D#8 [] hdigits rfl

/-- A value part falls into its sign, its digits and its trailer: no digit is a minus. -/
theorem splitValue_append (negative : Bool) (digits trailer : Str) (hne : digits ≠ [])
    (hdigits : digits.all isDigit = true) (htrailer : trailer = [] ∨ trailer = [0x0D#8]) :
    splitValue (valueSign negative ++ digits ++ trailer) = (negative, digits, trailer) := by
  obtain ⟨hrun, hafter⟩ := digits_append_trailer digits trailer hdigits htrailer
  cases negative with
  | true => simp [valueSign, splitValue, hrun, hafter]
  | false =>
    obtain ⟨d, ds, rfl⟩ := List.exists_cons_of_ne_nil hne
    have hd : d ≠ Config.asciiMinus := by
      rintro rfl
      simp [isDigit] at hdigits
    simp only [List.cons_append] at hrun hafter
    simp [valueSign, splitValue, hd, hrun, hafter]

theorem matchValue_append (host client : Byte) (status digits trailer : Str) (negative : Bool) (hne : digits ≠ [])
    (hdigits : digits.all isDigit = true) (htrailer : trailer = [] ∨ trailer = [0x0D#8]) :
    matchValue host client status (valueSign negative ++ digits ++ trailer) =
      some
        { host := [host], client := [client], status := status, value := valueSign negative ++ digits,
          statusInt := decimal status, valueInt := (if negative then -1 else 1) * (decimal digits : Int) } := by
  have haccept : (!digits.isEmpty && isTrailer trailer) = true := by
    simp [hne, (isTrailer_iff trailer).2 htrailer]
  simp only [matchValue, splitValue_append negative digits trailer hne hdigits htrailer, haccept, if_true]
  cases negative <;> simp [valueSign]

/-- One to three digits and a whitespace byte leave the value part to be matched. -/
theorem matchStatus_append (host client w : Byte) (status rest : Str) (hpos : 1 ≤ status.length)
    (hle : status.length ≤ 3) (hstatus : status.all isDigit = true) (hw : isWS w = true) :
    matchStatus host client (status ++ w :: rest) = matchValue host client status rest := by
  obtain ⟨hrun, hafter⟩ := digits_append_cons status w rest hstatus (isDigit_of_isWS w hw)
  simp only [matchStatus, hrun, hafter, hpos, hle, hw, and_self, if_true]

/-- Two letters, each with a whitespace byte after it, leave the status part to be matched. -/
theorem matchLine_cons (host w1 client w2 : Byte) (rest : Str) (hhost : isLetter host = true) (hw1 : isWS w1 = true)
    (hclient : isLetter client = true) (hw2 : isWS w2 = true) :
    matchLine (host :: w1 :: client :: w2 :: rest) = matchStatus host client rest := by
  simp only [matchLine, hhost, hw1, hclient, hw2, Bool.and_self, if_true]

/-- A line of the grammar matches, with its fields and the integers they denote. -/
theorem matchLine_append (host w1 client w2 w3 : Byte) (status digits trailer : Str) (negative : Bool)
    (hhost : isLetter host = true) (hw1 : isWS w1 = true) (hclient : isLetter client = true) (hw2 : isWS w2 = true)
    (hpos : 1 ≤ status.length) (hle : status.length ≤ 3) (hstatus : status.all isDigit = true) (hw3 : isWS w3 = true)
    (hne : digits ≠ []) (hdigits : digits.all isDigit = true) (htrailer : trailer = [] ∨ trailer = [0x0D#8]) :
    matchLine ([host, w1, client, w2] ++ status ++ [w3] ++ valueSign negative ++ digits ++ trailer) =
      some
        { host := [host], client := [client], status := status, value := valueSign negative ++ digits,
          statusInt := (Nat.ofDigits 10 ((status.map fun b => b.toNat - 0x30).reverse) : Nat),
          valueInt := (if negative then -1 else 1) *
            (Nat.ofDigits 10 ((digits.map fun b => b.toNat - 0x30).reverse) : Nat) } := by
  have hline : [host, w1, client, w2] ++ status ++ [w3] ++ valueSign negative ++ digits ++ trailer =
      host :: w1 :: client :: w2 :: (status ++ w3 :: (valueSign negative ++ digits ++ trailer)) := by
    simp only [List.append_assoc, List.cons_append, List.nil_append]
  rw [hline, matchLine_cons host w1 client w2 _ hhost hw1 hclient hw2,
    matchStatus_append host client w3 status _ hpos hle hstatus hw3,
    matchValue_append host client status digits trailer negative hne hdigits htrailer, decimal_eq, decimal_eq]

theorem exec_asciiDecode_of_matchLine (line : Str) (r : AsciiResponse) (s : State) (h : matchLine line = some r) :
    exec (.asciiDecode line) s = .next { s with latch := some (.ok (.asciiResponse r)) } := by
  rw [exec_asciiDecode, decodeLine, h]

/-! ### ASCII_DECODE accepts no other line (R143) -/

/-- A value part of R71: an optional minus, one or more digits, and nothing or one CR. -/
def IsValuePart (l : Str) : Prop :=
  ∃ (digits trailer : Str) (negative : Bool), digits ≠ [] ∧ digits.all isDigit = true ∧
    (trailer = [] ∨ trailer = [0x0D#8]) ∧ l = valueSign negative ++ digits ++ trailer

/-- A status part of R71: one to three digits, one whitespace byte, and a value part. -/
def IsStatusPart (l : Str) : Prop :=
  ∃ (w : Byte) (status rest : Str), 1 ≤ status.length ∧ status.length ≤ 3 ∧ status.all isDigit = true ∧
    isWS w = true ∧ IsValuePart rest ∧ l = status ++ w :: rest

/-- A response line of R71: two letters, each with one whitespace byte after it, and a status part. -/
def IsResponseLine (l : Str) : Prop :=
  ∃ (host w1 client w2 : Byte) (rest : Str), isLetter host = true ∧ isWS w1 = true ∧ isLetter client = true ∧
    isWS w2 = true ∧ IsStatusPart rest ∧ l = host :: w1 :: client :: w2 :: rest

/-- Splitting a value part loses nothing of it. -/
theorem valueSign_append_splitValue (l : Str) :
    valueSign (splitValue l).1 ++ (splitValue l).2.1 ++ (splitValue l).2.2 = l := by
  unfold splitValue
  split
  case h_1 => rfl
  case h_2 b l =>
    split
    case isTrue hb =>
      simp only [valueSign, if_true, List.append_assoc, digitRun_append_afterDigits]
      rw [hb]
      rfl
    case isFalse => exact digitRun_append_afterDigits (b :: l)

theorem isValuePart_of_matchValue (host client : Byte) (status l : Str) (r : AsciiResponse)
    (h : matchValue host client status l = some r) : IsValuePart l := by
  have hdigits := splitValue_digits_all l
  have hparts := valueSign_append_splitValue l
  rcases hsplit : splitValue l with ⟨negative, digits, trailer⟩
  rw [hsplit] at hdigits hparts
  simp only [matchValue, hsplit, Option.ite_none_right_eq_some, Bool.and_eq_true] at h
  obtain ⟨⟨hne, htrailer⟩, -⟩ := h
  exact ⟨digits, trailer, negative, by simpa using hne, hdigits, (isTrailer_iff trailer).1 htrailer, hparts.symm⟩

theorem isStatusPart_of_matchStatus (host client : Byte) (l : Str) (r : AsciiResponse)
    (h : matchStatus host client l = some r) : IsStatusPart l := by
  have hparts := digitRun_append_afterDigits l
  unfold matchStatus at h
  split at h
  case isFalse => simp at h
  case isTrue hlen =>
    split at h
    case h_1 => simp at h
    case h_2 w rest hafter =>
      rw [Option.ite_none_right_eq_some] at h
      obtain ⟨hw, hvalue⟩ := h
      rw [hafter] at hparts
      exact ⟨w, digitRun l, rest, hlen.1, hlen.2, digitRun_all l, hw,
        isValuePart_of_matchValue host client _ rest r hvalue, hparts.symm⟩

theorem isResponseLine_of_matchLine (l : Str) (r : AsciiResponse) (h : matchLine l = some r) : IsResponseLine l := by
  unfold matchLine at h
  split at h
  case h_1 host w1 client w2 rest =>
    simp only [Option.ite_none_right_eq_some, Bool.and_eq_true] at h
    obtain ⟨⟨⟨⟨hhost, hw1⟩, hclient⟩, hw2⟩, hstatus⟩ := h
    exact ⟨host, w1, client, w2, rest, hhost, hw1, hclient, hw2,
      isStatusPart_of_matchStatus host client rest r hstatus, rfl⟩
  case h_2 => simp at h

/-- R143: a line outside the grammar is a malformed response. -/
theorem decodeLine_of_not_isResponseLine (l : Str) (h : ¬IsResponseLine l) :
    decodeLine l = .err .malformedResponse := by
  have hnone : matchLine l = none :=
    Option.eq_none_iff_forall_ne_some.2 fun r hr => h (isResponseLine_of_matchLine l r hr)
  simp only [decodeLine, hnone]

/-- Settles O17: every line of the grammar matches with its fields (`matchLine_append`), and a line that matches is in
the grammar (`isResponseLine_of_matchLine`), so no other line does. -/
theorem asciiDecodeMatchesExactlyTheGrammar : Obligations.AsciiDecodeMatchesExactlyTheGrammar := by
  refine ⟨fun b => ⟨isLetter_iff b, isDigit_iff b, isWS_iff b⟩, fun line => rfl, ?accepts, ?rejects⟩
  case accepts =>
    intro host w1 client w2 w3 status digits trailer negative s hhost hw1 hclient hw2 hpos hle hstatus hw3 hne hdigits
      htrailer
    exact exec_asciiDecode_of_matchLine _ _ s (matchLine_append host w1 client w2 w3 status digits trailer negative
      hhost hw1 hclient hw2 hpos hle hstatus hw3 hne hdigits htrailer)
  case rejects =>
    intro line s hgrammar
    rw [exec_asciiDecode, decodeLine_of_not_isResponseLine]
    rintro ⟨host, w1, client, w2, _, hhost, hw1, hclient, hw2,
      ⟨w3, status, _, hpos, hle, hstatus, hw3, ⟨digits, trailer, negative, hne, hdigits, htrailer, rfl⟩, rfl⟩, rfl⟩
    refine hgrammar ⟨host, w1, client, w2, w3, status, digits, trailer, negative, hhost, hw1, hclient, hw2, hpos, hle,
      hstatus, hw3, hne, hdigits, htrailer, ?_⟩
    simp only [valueSign, List.append_assoc, List.cons_append, List.nil_append]

end Sys2Proof.Machine
end

section
/-! PROOFS. The Parameter Address Table (rules R170 to R175): what the two parameter sets are known to hold, the two
paths by which a global parameter is valid, and the addresses MAKE_GPVAR forms. -/

namespace Sys2Proof.Machine

/-! ### Axis parameters (R170, R171) -/

/-- R171 (c): an axis parameter id is a byte. -/
theorem inAxisParamSet_range (id : Int) (h : inAxisParamSet id = true) : 0 ≤ id ∧ id ≤ 255 :=
  byteInTable_range _ id h

/-- R171 (a): the stall detection threshold is in the set, whatever the OPEN rest of it is. -/
theorem inAxisParamSet_stallThreshold : inAxisParamSet 205 = true := rfl

/-- Settles O18: the set is the model's; 999 is out of it because its members are bytes (`inAxisParamSet_range`). -/
theorem validateAxisIsMembership : Obligations.ValidateAxisIsMembership := by
  refine ⟨inAxisParamSet, inAxisParamSet_stallThreshold, ?_, inAxisParamSet_range,
    fun id s => ⟨rfl, exec_validateAxis id s⟩⟩
  refine Bool.eq_false_iff.2 fun h => ?_
  have hrange := inAxisParamSet_range 999 h
  omega

/-! ### Global parameters (R172 to R174) -/

/-- R173 (c): a named global parameter has bank 0 and a byte for its id. -/
theorem inGlobalNamedSet_range (bank id : Int) (h : inGlobalNamedSet bank id = true) :
    bank = 0 ∧ 0 ≤ id ∧ id ≤ 255 := by
  rw [inGlobalNamedSet, Bool.and_eq_true, decide_eq_true_iff] at h
  exact ⟨h.1, byteInTable_range _ id h.2⟩

/-- R173 (a): the EEPROM magic is in the set, whatever the OPEN rest of it is. -/
theorem inGlobalNamedSet_eepromMagic : inGlobalNamedSet 0 64 = true := rfl

/-- R173 (b), which (c) implies: no bank but 0 has a named global parameter. -/
theorem inGlobalNamedSet_of_bank_ne_zero (bank id : Int) (h : bank ≠ 0) : inGlobalNamedSet bank id = false :=
  Bool.eq_false_iff.2 fun hmem => h (inGlobalNamedSet_range bank id hmem).1

/-- R174: the ids of bank 2. -/
theorem inGpvarRange_iff (id : Int) : inGpvarRange id = true ↔ 0 ≤ id ∧ id ≤ 55 := decide_eq_true_iff

/-- R172, R174: the bank-2 path stands beside the named set and does not read it. -/
theorem isGlobalParam_eq (bank id : Int) :
    isGlobalParam bank id = (inGlobalNamedSet bank id || decide (bank = 2 ∧ 0 ≤ id ∧ id ≤ 55)) := by
  rw [isGlobalParam, inGpvarRange, ← Bool.decide_and]

/-- Settles O19: the set is the model's named set, and the two paths are those of `isGlobalParam_eq`. -/
theorem validateGlobalHasTwoPaths : Obligations.ValidateGlobalHasTwoPaths := by
  refine ⟨inGlobalNamedSet, inGlobalNamedSet_eepromMagic, inGlobalNamedSet_of_bank_ne_zero 1 64 (by decide),
    inGlobalNamedSet_of_bank_ne_zero 2 60 (by decide), inGlobalNamedSet_range, fun bank id s => ⟨rfl, ?_⟩⟩
  rw [exec_validateGlobal, isGlobalParam_eq]

/-! ### General-purpose variables (R175) -/

theorem gpvarResult_of_inRange (id : Int) (h : 0 ≤ id ∧ id ≤ 55) : gpvarResult id = .ok (.gpvar 2#8 (maskByte id)) :=
  if_pos ((inGpvarRange_iff id).2 h)

theorem gpvarResult_of_not_inRange (id : Int) (h : ¬(0 ≤ id ∧ id ≤ 55)) :
    gpvarResult id = .err (.invalidParameter id) :=
  if_neg (mt (inGpvarRange_iff id).1 h)

/-- Settles O20: the byte of the address is the masked id, and the mask changes no id in 0..55. -/
theorem makeGpvarFormsBankTwoAddresses : Obligations.MakeGpvarFormsBankTwoAddresses := by
  refine fun id s => ⟨rfl, fun hrange => ⟨maskByte id, ?_, ?_⟩, fun hrange => ?_⟩
  · have hmask := maskByte_toNat id
    omega
  · rw [exec_makeGpvar, gpvarResult_of_inRange id hrange]
  · rw [exec_makeGpvar, gpvarResult_of_not_inRange id hrange]

end Sys2Proof.Machine
end

section
/-! PROOFS. Errors of the block and failures of the device (rule R209): a status byte that says the command failed is
decoded like any other. -/

namespace Sys2Proof.Machine

/-- R100 for the eight bytes before a frame's checksum byte, their sum taken byte by byte. -/
theorem checksum_eight_bytes_eq_add (b0 b1 b2 b3 b4 b5 b6 b7 : Byte) :
    checksum [b0, b1, b2, b3, b4, b5, b6, b7] = b0 + b1 + b2 + b3 + b4 + b5 + b6 + b7 := by
  rw [checksum_eq_foldl_add]
  simp only [List.foldl_cons, List.foldl_nil, BitVec.zero_add]

/-- R28: only the statuses 100 and 101 stand for success. -/
theorem isSuccessful_eq_false_iff (b : Byte) : isSuccessful b = false ↔ b ≠ 100#8 ∧ b ≠ 101#8 := by
  rw [isSuccessful_eq_decide, decide_eq_false_iff_not, not_or]

/-- Settles O14: the frame ends in its checksum, so `decodeFrame_append_eq` accepts it whatever its status byte is, and
`isSuccessful_eq_false_iff` gives the flag of the record it answers. -/
theorem deviceStatusIsNoBlockError : Obligations.DeviceStatusIsNoBlockError := by
  intro b0 b1 b2 b3 b4 b5 b6 b7 s hsuccess hloaded
  have hsum := (checksum_eight_bytes_eq_add b0 b1 b2 b3 b4 b5 b6 b7).symm
  have hrun := exec_binDecode [b0, b1, b2, b3, b4, b5, b6, b7, b0 + b1 + b2 + b3 + b4 + b5 + b6 + b7] s
  rw [decodeFrame_append_eq _ _ _ _ _ _ _ _ _ hsum] at hrun
  exact ⟨_, hrun, rfl, (isSuccessful_eq_false_iff b2).2 ⟨hsuccess, hloaded⟩⟩

end Sys2Proof.Machine
end

section
/-! PROOFS. Laws across the two directions of the Binary Message Codec (rules R65 to R67 and R110 to R112): a frame that
is encoded and then decoded gives its fields back, and the truncating encoder is the strict one on the masked fields. -/

namespace Sys2Proof.Machine

/-! ### Encoding, then decoding -/

/-- The record a request frame decodes to when it is read as a response: the masked fields in frame order. -/
def echoedResponse (a c t m v : Int) : BinaryResponse :=
  { replyAddress := maskByte a
    moduleAddress := maskByte c
    status := maskByte t
    commandId := maskByte m
    value := sext32 (maskWord v)
    checksum := checksum (requestHeader a c t m v)
    statusName := classify (maskByte t)
    isSuccessful := isSuccessful (maskByte t) }

/-- R112 on a frame of R110: encoder and decoder share the checksum and the byte order. -/
theorem decodeFrame_requestFrame (a c t m v : Int) :
    decodeFrame (requestFrame a c t m v) = .ok (.response (echoedResponse a c t m v)) := by
  have haccepted : decodeFrame (requestFrame a c t m v) = .ok (.response _) :=
    decodeFrame_append_eq _ _ _ _ _ _ _ _ (checksum (requestHeader a c t m v)) rfl
  rw [haccepted, responseOf, wordOfBytes_wordBytes, echoedResponse]

theorem exec_binDecode_requestFrame (a c t m v : Int) (s : State) :
    exec (.binDecode (requestFrame a c t m v)) s =
      .next { s with latch := some (.ok (.response (echoedResponse a c t m v))) } := by
  rw [exec_binDecode, decodeFrame_requestFrame]

/-- A mask changes no field in its declared width. -/
theorem maskByte_toNat_of_inRange (x : Int) (h : 0 ≤ x ∧ x ≤ 255) : ((maskByte x).toNat : Int) = x := by
  rw [maskByte_toNat]
  omega

theorem sext32_maskWord_of_inRange (v : Int) (h : -2 ^ 31 ≤ v ∧ v ≤ 2 ^ 31 - 1) : sext32 (maskWord v) = v := by
  rw [sext32_maskWord]
  split <;> omega

/-- Settles O10: the frame decodes to its masked fields (`decodeFrame_requestFrame`), and in range a mask changes none. -/
theorem binRoundTripInRange : Obligations.BinRoundTripInRange := by
  intro a c t m v s ha hc ht hm hv
  exact ⟨requestFrame a c t m v, echoedResponse a c t m v, exec_binEncode a c t m v s,
    exec_binDecode_requestFrame a c t m v s, maskByte_toNat_of_inRange a ha, maskByte_toNat_of_inRange c hc,
    maskByte_toNat_of_inRange t ht, maskByte_toNat_of_inRange m hm, sext32_maskWord_of_inRange v hv, rfl⟩

/-- Settles O11: the value of the decoded record is the masked value with its sign (`sext32_maskWord`). -/
theorem binRoundTripValueTruncates : Obligations.BinRoundTripValueTruncates :=
  fun a c t m v s => ⟨requestFrame a c t m v, echoedResponse a c t m v, exec_binEncode a c t m v s,
    exec_binDecode_requestFrame a c t m v s, sext32_maskWord v⟩

/-! ### The truncating and the strict encoder (R110, R111) -/

/-- Two integers have one mask when they differ by a multiple of 256. -/
theorem maskByte_congr (x y : Int) (h : x % 256 = y % 256) : maskByte x = maskByte y := by
  rw [maskByte, maskByte, h]

theorem maskWord_congr (x y : Int) (h : x % 2 ^ 32 = y % 2 ^ 32) : maskWord x = maskWord y := by
  rw [maskWord, maskWord, h]

/-- A request frame depends on the masks of its fields alone. -/
theorem requestFrame_congr (a c t m v a' c' t' m' v' : Int) (ha : maskByte a = maskByte a')
    (hc : maskByte c = maskByte c') (ht : maskByte t = maskByte t') (hm : maskByte m = maskByte m')
    (hv : maskWord v = maskWord v') : requestFrame a c t m v = requestFrame a' c' t' m' v' := by
  rw [requestFrame_eq_header_append, requestFrame_eq_header_append, requestHeader, requestHeader, ha, hc, ht, hm, hv]

/-- R224: whole turns of a field do not show in the frame. -/
theorem requestFrame_add_turns (a c t m v ka kc kt km kv : Int) :
    requestFrame (a + 256 * ka) (c + 256 * kc) (t + 256 * kt) (m + 256 * km) (v + 2 ^ 32 * kv) =
      requestFrame a c t m v := by
  have hbyte (x k : Int) : maskByte (x + 256 * k) = maskByte x :=
    maskByte_congr _ _ (Int.add_mul_emod_self_left x 256 k)
  exact requestFrame_congr _ _ _ _ _ _ _ _ _ _ (hbyte a ka) (hbyte c kc) (hbyte t kt) (hbyte m km)
    (maskWord_congr _ _ (Int.add_mul_emod_self_left v (2 ^ 32) kv))

/-- Masking the fields before they are encoded changes nothing. -/
theorem requestFrame_masked (a c t m v : Int) :
    requestFrame (a % 256) (c % 256) (t % 256) (m % 256) (sext32 (maskWord v)) = requestFrame a c t m v := by
  have hbyte (x : Int) : maskByte (x % 256) = maskByte x := maskByte_congr _ _ (Int.emod_emod x 256)
  exact requestFrame_congr _ _ _ _ _ _ _ _ _ _ (hbyte a) (hbyte c) (hbyte t) (hbyte m) (maskWord_sext32 (maskWord v))

/-- R111: the strict encoder finds no bad field when every field is in its declared width. -/
theorem firstOutOfRange_eq_none_iff (a c t m v : Int) :
    firstOutOfRange a c t m v = none ↔
      (0 ≤ a ∧ a ≤ 255) ∧ (0 ≤ c ∧ c ≤ 255) ∧ (0 ≤ t ∧ t ≤ 255) ∧ (0 ≤ m ∧ m ≤ 255) ∧
        -2 ^ 31 ≤ v ∧ v ≤ 2 ^ 31 - 1 := by
  rw [firstOutOfRange_eq]
  split_ifs
  case pos => exact iff_of_true rfl (by tauto)
  all_goals exact iff_of_false not_false (by tauto)

theorem firstOutOfRange_masked (a c t m v : Int) :
    firstOutOfRange (a % 256) (c % 256) (t % 256) (m % 256) (sext32 (maskWord v)) = none := by
  have hbyte (x : Int) : 0 ≤ x % 256 ∧ x % 256 ≤ 255 := by omega
  exact (firstOutOfRange_eq_none_iff ..).2 ⟨hbyte a, hbyte c, hbyte t, hbyte m, sext32_range _⟩

/-- Next states that differ in the latch at most are equal when their results are. -/
theorem next_latch_eq_iff (s : State) (r r' : Result) :
    (.next { s with latch := some r } : Host.Outcome State Fault Refusal) = .next { s with latch := some r' } ↔
      r = r' := by
  simp only [Host.Outcome.next.injEq, State.mk.injEq, true_and, Option.some.injEq]

theorem strictResult_isOk_iff (a c t m v : Int) :
    (∃ p, strictResult a c t m v = .ok p) ↔ firstOutOfRange a c t m v = none := by
  cases h : firstOutOfRange a c t m v with
  | none => simp [strictResult, h]
  | some i => simp [strictResult, h]

/-- Settles O7: whole turns and masks leave the frame as it is (`requestFrame_add_turns`, `requestFrame_masked`), masked
fields pass the range check, and the strict encoder's success is that check's (`strictResult_isOk_iff`). -/
theorem binEncodeTruncationLaw : Obligations.BinEncodeTruncationLaw := by
  refine ⟨fun a c t m v ka kc kt km kv s => ?turns, fun a c t m v s => ⟨?masked, ?inRange⟩⟩
  case turns => rw [exec_binEncode, exec_binEncode, requestFrame_add_turns]
  case masked =>
    rw [← sext32_maskWord, exec_binEncodeStrict_of_in_range _ _ _ _ _ s (firstOutOfRange_masked a c t m v),
      exec_binEncode, exec_binEncode, requestFrame_masked]
  case inRange =>
    rw [← firstOutOfRange_eq_none_iff, ← strictResult_isOk_iff, exec_binEncodeStrict]
    simp only [next_latch_eq_iff]

end Sys2Proof.Machine
end

section
/-! PROOFS. Decoding and encoding of requests (rules R60 to R62): the two are inverse to each other, and the decoder
accepts exactly the well-formed requests. -/

namespace Sys2Proof

/-- Every operation comes back from its request. Only BIN_STATUS changes the form of an operand on the way. -/
theorem decode_encode (i : Instr) : decode (encode i) = .ok i := by
  cases i with
  | binStatus status => exact Machine.decode_binStatus_toNat status
  | _ => rfl

/-- A request that decodes is its operation's: its selector names the operation, and its operands are those read. -/
theorem encode_of_decode (r : Request) (i : Instr) (h : decode r = .ok i) : encode i = r := by
  obtain ⟨-, -, herr⟩ | ⟨op, hop, ⟨-, herr⟩ | ⟨j, -, hoperands, hok⟩⟩ := decode_cases r
  · cases herr.symm.trans h
  · cases herr.symm.trans h
  · cases hok.symm.trans h
    rw [(decodeOperands_some op r.operands i hoperands).2, ← selector_of_ofSelector r.opsel op hop]

/-- Settles O28: `decode_encode` one way, `encode_of_decode` the other. -/
theorem decodeEncodeAgree : Obligations.DecodeEncodeAgree := ⟨decode_encode, encode_of_decode⟩

/-- What decoding answers for a well-formed request. -/
theorem decode_of_wellFormed (r : Request) (h : r.wellFormed = true) : ∃ i, decode r = .ok i := by
  obtain ⟨-, hwf, -⟩ | ⟨op, -, ⟨hwf, -⟩ | ⟨i, -, -, hok⟩⟩ := decode_cases r
  · cases hwf.symm.trans h
  · cases hwf.symm.trans h
  · exact ⟨i, hok⟩

/-- What decoding answers for any other request: it names the selector, or says that the operands do not fit. -/
theorem decode_of_not_wellFormed (r : Request) (h : r.wellFormed = false) :
    (Opcode.ofSelector r.opsel = none ∧ decode r = .error (.unsupportedOperation r.opsel)) ∨
      decode r = .error (.operandMismatch r.opsel) := by
  obtain ⟨hnone, -, herr⟩ | ⟨op, -, ⟨-, herr⟩ | ⟨i, hwf, -, -⟩⟩ := decode_cases r
  · exact .inl ⟨hnone, herr⟩
  · exact .inr herr
  · cases hwf.symm.trans h

theorem decode_isOk_iff_wellFormed (r : Request) : (∃ i, decode r = .ok i) ↔ r.wellFormed = true := by
  refine ⟨fun ⟨i, hok⟩ => ?_, decode_of_wellFormed r⟩
  cases hwf : r.wellFormed with
  | true => rfl
  | false => obtain ⟨-, herr⟩ | herr := decode_of_not_wellFormed r hwf <;> cases herr.symm.trans hok

/-- Settles O27: an assigned selector is not a reserved one (`ofSelector_eq_none`), so the operands are what is named. -/
theorem decodeAcceptsExactlyTheRequests : Obligations.DecodeAcceptsExactlyTheRequests := by
  refine fun r => ⟨decode_isOk_iff_wellFormed r, fun hwf hlow hhigh => ?_⟩
  obtain ⟨hnone, -⟩ | herr := decode_of_not_wellFormed r hwf
  · have hreserved := (ofSelector_eq_none r.opsel).1 hnone
    omega
  · exact herr

/-- Settles O29: each request is what `encode` makes of the operation, so `decode_encode` reads it back. -/
theorem knownRequestsDecode : Obligations.KnownRequestsDecode :=
  ⟨decode_encode (.validateAxis 205), decode_encode (.binEncodeStrict 1 5 205 0 100), decode_encode (.makeGpvar 55),
    decode_encode (.validateGlobal 2 55), decode_encode (.binEncode 1 9 55 2 (-1)), decode_encode (.binStatus 100#8)⟩

end Sys2Proof
end

section
/-! PROOFS. Laws of the checksum (`40_checksum.md`): order, single-byte changes, splitting, the one valid ninth byte of a
frame, and the corruption of a frame that BIN_DECODE accepts (`41_binary_codec.md`). -/

namespace Sys2Proof.Machine

/-! ### Order (R102) -/

theorem checksum_perm (bs bs' : Bytes) (h : bs.Perm bs') : checksum bs = checksum bs' := by
  apply BitVec.eq_of_toNat_eq
  rw [checksum_toNat, checksum_toNat, (h.map BitVec.toNat).sum_eq]

/-- Settles O2: a sum does not depend on the order of its terms (`checksum_perm`). -/
theorem checksumIgnoresOrder : Obligations.ChecksumIgnoresOrder := by
  intro bs bs' s h
  rw [exec_checksum, exec_checksum, checksum_perm bs bs' h]

/-! ### Changes of single bytes (R103) -/

/-- A byte stands in the sum once, so a change of it is the change of the sum. -/
theorem checksum_sub_of_change (pre post : Bytes) (b b' : Byte) :
    checksum (pre ++ b' :: post) - checksum (pre ++ b :: post) = b' - b := by
  simp only [checksum_append, checksum_cons]
  ring

theorem checksum_ne_of_change (pre post : Bytes) (b b' : Byte) (h : b ≠ b') :
    checksum (pre ++ b :: post) ≠ checksum (pre ++ b' :: post) := by
  intro heq
  have hsub := checksum_sub_of_change pre post b b'
  rw [heq, sub_self] at hsub
  exact h (sub_eq_zero.1 hsub.symm).symm

theorem checksum_add_one_sub_one (pre mid post : Bytes) (x y : Byte) :
    checksum (pre ++ (x + 1#8) :: mid ++ (y - 1#8) :: post) = checksum (pre ++ x :: mid ++ y :: post) := by
  simp only [checksum_append, checksum_cons]
  ring

/-- Settles O3: the difference is the bytes' (`checksum_sub_of_change`), so it is not 0; +1 and -1 cancel. -/
theorem checksumSeesEverySingleByteChange : Obligations.ChecksumSeesEverySingleByteChange := by
  refine ⟨fun pre post b b' s hne => ?change, fun pre mid post x y s => ?cancel⟩
  case change =>
    exact ⟨_, _, exec_checksum _ s, exec_checksum _ s, checksum_sub_of_change pre post b b',
      checksum_ne_of_change pre post b b' hne⟩
  case cancel => rw [exec_checksum, exec_checksum, checksum_add_one_sub_one]

/-! ### Splitting (R104) -/

theorem checksum_append_zero (bs : Bytes) : checksum (bs ++ [0#8]) = checksum bs := by
  rw [checksum_append, checksum_cons, checksum_nil, BitVec.add_zero, BitVec.add_zero]

/-- A sum of bytes is the sum of their values modulo 256. -/
theorem byte_add_eq (x y : Byte) : x + y = BitVec.ofNat 8 ((x.toNat + y.toNat) % 256) := by
  apply BitVec.eq_of_toNat_eq
  simp only [BitVec.toNat_add, BitVec.toNat_ofNat]
  omega

/-- The byte `(256 - x) mod 256` brings the sum to 0. -/
theorem byte_add_complement (x : Byte) : x + BitVec.ofNat 8 ((256 - x.toNat) % 256) = 0#8 := by
  apply BitVec.eq_of_toNat_eq
  have hx := x.isLt
  simp only [BitVec.toNat_add, BitVec.toNat_ofNat]
  omega

theorem checksum_append_complement (bs : Bytes) :
    checksum (bs ++ [BitVec.ofNat 8 ((256 - (checksum bs).toNat) % 256)]) = 0#8 := by
  rw [checksum_append, checksum_cons, checksum_nil, BitVec.add_zero, byte_add_complement]

/-- Settles O4: the checksum of an append is the sum of the checksums (`checksum_append`), here with its three cases. -/
theorem checksumSplitsOverAppend : Obligations.ChecksumSplitsOverAppend := by
  refine fun as bs s => ⟨checksum as, checksum bs, exec_checksum as s, exec_checksum bs s, ?both, ?zero, ?complement⟩
  case both => rw [exec_checksum, checksum_append, byte_add_eq]
  case zero => rw [exec_checksum, checksum_append_zero]
  case complement => rw [exec_checksum, checksum_append_complement]

/-! ### The one valid ninth byte (R105, R112) -/

/-- BIN_DECODE accepts eight bytes and a ninth exactly when the ninth is their checksum. -/
theorem decodeFrame_append_isResponse_iff (hdr : Bytes) (b : Byte) (h : hdr.length = 8) :
    (∃ r, decodeFrame (hdr ++ [b]) = .ok (.response r)) ↔ b = checksum hdr := by
  constructor
  · rintro ⟨r, hr⟩
    by_contra hb
    rw [decodeFrame_append_ne hdr b h hb] at hr
    cases hr
  · intro hb
    match hdr, h with
    | [_, _, _, _, _, _, _, _], _ => exact ⟨_, decodeFrame_append_eq _ _ _ _ _ _ _ _ _ hb⟩

theorem exec_binDecode_eq_iff (bs : Bytes) (s : State) (r : Result) :
    exec (.binDecode bs) s = .next { s with latch := some r } ↔ decodeFrame bs = r := by
  rw [exec_binDecode, next_latch_eq_iff]

/-- Settles O9: the byte is the checksum, by `decodeFrame_append_isResponse_iff`. -/
theorem binFrameHasOneValidNinthByte : Obligations.BinFrameHasOneValidNinthByte := by
  refine fun hdr s hlen => ⟨checksum hdr, exec_checksum hdr s, fun b => ?_⟩
  simp only [exec_binDecode_eq_iff]
  exact decodeFrame_append_isResponse_iff hdr b hlen

/-! ### Corruption (R103, R112, R116) -/

theorem checksum_set_ne (bs : Bytes) (i : Nat) (b : Byte) (hi : i < bs.length) (hb : bs[i] ≠ b) :
    checksum (bs.set i b) ≠ checksum bs := by
  have hsplit : bs = bs.take i ++ bs[i] :: bs.drop (i + 1) := by simp
  rw [List.set_eq_take_append_cons_drop, if_pos hi]
  conv_rhs => rw [hsplit]
  exact checksum_ne_of_change _ _ _ _ hb.symm

/-- A changed frame is eight bytes and a ninth that is not their checksum: either the sum moved away from the ninth byte,
or the ninth byte moved away from the sum. -/
theorem set_validFrame_eq (hdr : Bytes) (i : Nat) (b : Byte) (hlen : hdr.length = 8) (hi : i < 9)
    (hb : (hdr ++ [checksum hdr])[i]? ≠ some b) :
    ∃ (hdr' : Bytes) (b' : Byte), hdr'.length = 8 ∧ b' ≠ checksum hdr' ∧
      (hdr ++ [checksum hdr]).set i b = hdr' ++ [b'] := by
  by_cases hlast : i < 8
  · have hi' : i < hdr.length := by omega
    have hne : hdr[i] ≠ b := by simpa [List.getElem?_append_left hi', hi'] using hb
    exact ⟨hdr.set i b, checksum hdr, by simpa using hlen, (checksum_set_ne hdr i b hi' hne).symm,
      List.set_append_left i b hi'⟩
  · obtain rfl : i = hdr.length := by omega
    have hne : checksum hdr ≠ b := by simpa using hb
    exact ⟨hdr, b, hlen, hne.symm, by simp⟩

/-- Settles O12: an accepted frame is eight bytes and their checksum (`decodeFrame_ok`), and after any change it is not
(`set_validFrame_eq`). -/
theorem binCorruptionIsAlwaysCaught : Obligations.BinCorruptionIsAlwaysCaught := by
  intro f s r i b haccepted hi hb
  obtain ⟨hdr, hlen, rfl⟩ := decodeFrame_ok f r ((exec_binDecode_eq_iff f s _).1 haccepted)
  obtain ⟨hdr', b', hlen', hne, hset⟩ := set_validFrame_eq hdr i b hlen hi hb
  refine ⟨checksum hdr', b', hne.symm, ?_⟩
  rw [exec_binDecode_eq_iff, hset, decodeFrame_append_ne hdr' b' hlen' hne]

end Sys2Proof.Machine
end

section
/-! PROOFS. The shape of an encoded line (rules R140 and R146 of `42_ascii_codec.md`): how many bytes of a kind it holds,
and how long it is. -/

namespace Sys2Proof.Machine

/-! ### The argument list -/

/-- A byte the separator does not hold stands in a joined list as often as in its parts. -/
theorem count_joinWith (sep : Str) (parts : List Str) (b : Byte) (h : sep.count b = 0) :
    (joinWith sep parts).count b = (parts.map fun p => p.count b).sum := by
  induction parts with
  | nil => rfl
  | cons p ps ih =>
    cases ps with
    | nil => simp [joinWith]
    | cons q qs =>
      simp only [joinWith, List.count_append, h, ih, List.map_cons, List.sum_cons, add_zero]

/-- A joined list is as long as its parts, and a separator stands between each two of them. -/
theorem length_joinWith (sep : Str) (parts : List Str) :
    (joinWith sep parts).length = (parts.map List.length).sum + sep.length * (parts.length - 1) := by
  induction parts with
  | nil => rfl
  | cons p ps ih =>
    cases ps with
    | nil => simp [joinWith]
    | cons q qs =>
      rw [joinWith, List.length_append, List.length_append, ih]
      simp only [List.map_cons, List.sum_cons, List.length_cons, Nat.add_sub_cancel, Nat.mul_succ]
      omega

/-- Empty parts add nothing to a sum over the parts, so leaving them out changes none. -/
theorem sum_map_nonEmptyParts (parts : List Str) (size : Str → Nat) (h : size [] = 0) :
    ((nonEmptyParts parts).map size).sum = (parts.map size).sum := by
  induction parts with
  | nil => rfl
  | cons p ps ih =>
    cases p with
    | nil => simpa [nonEmptyParts, h] using ih
    | cons b bs => simpa [nonEmptyParts] using ih

/-! ### The line -/

theorem count_cr_requestLine (address instruction type bank value : Str) :
    (requestLine address instruction type bank value).count Config.asciiCR =
      address.count Config.asciiCR + instruction.count Config.asciiCR + type.count Config.asciiCR +
        bank.count Config.asciiCR + value.count Config.asciiCR + 1 := by
  have hargs := count_joinWith Config.asciiSeparator (nonEmptyParts [type, bank, value]) Config.asciiCR rfl
  rw [sum_map_nonEmptyParts _ (fun p => p.count Config.asciiCR) rfl] at hargs
  have hspace : [Config.asciiSpace].count Config.asciiCR = 0 := rfl
  simp only [requestLine, List.count_append, hargs, hspace, List.count_singleton_self, List.map_cons, List.map_nil,
    List.sum_cons, List.sum_nil]
  omega

theorem length_requestLine (address instruction type bank value : Str) :
    (requestLine address instruction type bank value).length =
      address.length + instruction.length + (type.length + bank.length + value.length) +
        2 * ((nonEmptyParts [type, bank, value]).length - 1) + 3 := by
  have hargs := length_joinWith Config.asciiSeparator (nonEmptyParts [type, bank, value])
  rw [sum_map_nonEmptyParts _ List.length rfl] at hargs
  simp only [requestLine, List.length_append, hargs, List.map_cons, List.map_nil, List.sum_cons, List.sum_nil,
    List.length_cons, List.length_nil]
  omega

/-- Settles O16: an allowed type gives the line, and each clause is a law of the line. -/
theorem asciiEncodeShape : Obligations.AsciiEncodeShape := by
  intro address instruction type bank value s htype
  refine ⟨requestLine address instruction type bank value, ?completes, requestLine_getLast? ..,
    count_cr_requestLine .., two_le_count_space_requestLine .., ?length⟩
  case completes => rw [exec_asciiEncode, encodeLine_of_allowed _ _ _ _ _ htype]
  case length => rw [length_requestLine, nonEmptyParts_eq]

end Sys2Proof.Machine
end

section
/-! PROOFS. The agreement of MAKE_GPVAR and VALIDATE_GLOBAL (rules R172 to R175, the disjoint paths of
`43_parameter_table.md`), and the errors each operation may raise (R200). -/

namespace Sys2Proof.Machine

/-! ### Global parameters and general-purpose variables (R172 to R175) -/

/-- R172: the two paths by which a pair is valid; each fixes the bank. -/
theorem isGlobalParam_iff (bank id : Int) :
    isGlobalParam bank id = true ↔ inGlobalNamedSet bank id = true ∨ (bank = 2 ∧ 0 ≤ id ∧ id ≤ 55) := by
  rw [isGlobalParam_eq, Bool.or_eq_true, decide_eq_true_iff]

theorem bank_of_isGlobalParam (bank id : Int) (h : isGlobalParam bank id = true) : bank = 0 ∨ bank = 2 :=
  ((isGlobalParam_iff bank id).1 h).imp (fun hnamed => (inGlobalNamedSet_range bank id hnamed).1) And.left

/-- In bank 2 a pair is valid exactly on the path of the general-purpose variables. -/
theorem isGlobalParam_two_iff (id : Int) : isGlobalParam 2 id = true ↔ 0 ≤ id ∧ id ≤ 55 := by
  rw [isGlobalParam_iff, inGlobalNamedSet_of_bank_ne_zero 2 id (by decide)]
  simp

theorem gpvarResult_isOk_iff (id : Int) : (∃ p, gpvarResult id = .ok p) ↔ 0 ≤ id ∧ id ≤ 55 := by
  by_cases h : 0 ≤ id ∧ id ≤ 55
  · simp [gpvarResult_of_inRange id h, h]
  · simp [gpvarResult_of_not_inRange id h, h]

/-- An address MAKE_GPVAR forms is a valid global parameter: it is legal, so it is in bank 2 with an id up to 55. -/
theorem isGlobalParam_of_gpvarResult (id : Int) (b i : Byte) (h : gpvarResult id = .ok (.gpvar b i)) :
    isGlobalParam b.toNat i.toNat = true := by
  have hlegal := gpvarResult_legal id
  rw [h] at hlegal
  obtain ⟨rfl, hi⟩ := hlegal
  exact (isGlobalParam_two_iff i.toNat).2 (by omega)

theorem exec_validateGlobal_eq_true_iff (bank id : Int) (s : State) :
    exec (.validateGlobal bank id) s = .next { s with latch := some (.ok (.bool true)) } ↔
      isGlobalParam bank id = true := by
  rw [exec_validateGlobal, next_latch_eq_iff, Result.ok.injEq, Payload.bool.injEq]

theorem exec_makeGpvar_eq_iff (id : Int) (s : State) (r : Result) :
    exec (.makeGpvar id) s = .next { s with latch := some r } ↔ gpvarResult id = r := by
  rw [exec_makeGpvar, next_latch_eq_iff]

/-- Settles O21: both operations ask whether the id is in 0..55, and a formed address is valid. -/
theorem gpvarAgreesWithValidateGlobal : Obligations.GpvarAgreesWithValidateGlobal := by
  intro bank id s
  simp only [exec_validateGlobal_eq_true_iff, exec_makeGpvar_eq_iff]
  exact ⟨bank_of_isGlobalParam bank id, (gpvarResult_isOk_iff id).trans (isGlobalParam_two_iff id).symm,
    isGlobalParam_of_gpvarResult id⟩

/-! ### The errors of each unit (R200) -/

theorem strictResult_err_code (a c t m v : Int) (e : BlockError) (h : strictResult a c t m v = .err e) : e.code = 8 := by
  unfold strictResult at h
  split at h <;> cases h
  rfl

theorem decodeFrame_err_code (bs : Bytes) (e : BlockError) (h : decodeFrame bs = .err e) : e.code = 2 ∨ e.code = 4 := by
  unfold decodeFrame at h
  split at h
  · split at h <;> cases h
    exact .inr rfl
  · cases h
    exact .inl rfl

theorem encodeLine_err_code (address instruction type bank value : Str) (e : BlockError)
    (h : encodeLine address instruction type bank value = .err e) : e.code = 7 := by
  unfold encodeLine at h
  split at h <;> cases h
  rfl

theorem decodeLine_err_code (line : Str) (e : BlockError) (h : decodeLine line = .err e) : e.code = 3 := by
  unfold decodeLine at h
  split at h <;> cases h
  rfl

theorem gpvarResult_err_code (id : Int) (e : BlockError) (h : gpvarResult id = .err e) : e.code = 1 := by
  unfold gpvarResult at h
  split at h <;> cases h
  rfl

/-- The result an operation leaves in the latch is the only one it leaves there. -/
theorem result_eq_of_exec (i : Instr) (s : State) (r r' : Result) (h : exec i s = .next { s with latch := some r })
    (h' : exec i s = .next { s with latch := some r' }) : r = r' :=
  (next_latch_eq_iff s r r').1 (h.symm.trans h')

/-- Settles O23: an error in the latch is the unit's own result, and each unit's errors have the codes of R200. -/
theorem errorsBelongToTheirOperations : Obligations.ErrorsBelongToTheirOperations := by
  refine ⟨fun id n e r t k o p => ⟨rfl, rfl, rfl, rfl, rfl, rfl, rfl, rfl, rfl, rfl⟩, fun i s e h => ?_⟩
  cases i with
  | makeGpvar id => exact gpvarResult_err_code id e (result_eq_of_exec _ s _ _ (exec_makeGpvar id s) h)
  | binDecode bs => exact decodeFrame_err_code bs e (result_eq_of_exec _ s _ _ (exec_binDecode bs s) h)
  | asciiDecode line => exact decodeLine_err_code line e (result_eq_of_exec _ s _ _ (exec_asciiDecode line s) h)
  | asciiEncode address instruction type bank value =>
    exact encodeLine_err_code address instruction type bank value e
      (result_eq_of_exec _ s _ _ (exec_asciiEncode address instruction type bank value s) h)
  | binEncodeStrict a c t m v =>
    exact strictResult_err_code a c t m v e (result_eq_of_exec _ s _ _ (exec_binEncodeStrict a c t m v s) h)
  | checksum bs => cases result_eq_of_exec _ s _ _ (exec_checksum bs s) h
  | binEncode a c t m v => cases result_eq_of_exec _ s _ _ (exec_binEncode a c t m v s) h
  | binStatus status => cases result_eq_of_exec _ s _ _ (exec_binStatus status s) h
  | validateAxis id => cases result_eq_of_exec _ s _ _ (exec_validateAxis id s) h
  | validateGlobal bank id => cases result_eq_of_exec _ s _ _ (exec_validateGlobal bank id s) h

end Sys2Proof.Machine
end

section
/-! PROOFS. Steps and runs of the block (rules R21, R48, R50, R205 and R213), the reset state (R220), a table word placed
at the interface, and the host's operation statement (R75). -/

namespace Sys2Proof.Machine

/-! ### One step -/

theorem step_of_decode_ok (r : Request) (rest : List Request) (l : Option Result) (i : Instr) (h : decode r = .ok i) :
    step { requests := r :: rest, latch := l } = exec i { requests := rest, latch := l } := by
  rw [step_cons, h]

theorem step_of_no_request (l : Option Result) :
    step { requests := [], latch := l } = .next { requests := [], latch := l } := rfl

/-- Settles O25: the two cases of a step, a waiting request that decodes and no waiting request. -/
theorem stepRunsTheDecodedOperation : Obligations.StepRunsTheDecodedOperation :=
  ⟨step_of_decode_ok, step_of_no_request⟩

/-- R213: a well-formed request is answered with a new result. -/
theorem step_of_wellFormed (q : Request) (rest : List Request) (l : Option Result) (h : q.wellFormed = true) :
    ∃ r, step { requests := q :: rest, latch := l } = .next { requests := rest, latch := some r } := by
  obtain ⟨i, hi⟩ := decode_of_wellFormed q h
  obtain ⟨r, hr⟩ := exec_answers i
  exact ⟨r, by rw [step_of_decode_ok q rest l i hi, hr]⟩

/-- R205: any other request is refused, by its selector or by its operands. -/
theorem step_of_not_wellFormed (q : Request) (rest : List Request) (l : Option Result) (h : q.wellFormed = false) :
    step { requests := q :: rest, latch := l } = .refused (.unsupportedOperation q.opsel) ∨
      step { requests := q :: rest, latch := l } = .refused (.operandMismatch q.opsel) :=
  (decode_of_not_wellFormed q h).imp
    (fun hreserved => step_of_decode q rest l (.unsupportedOperation q.opsel) hreserved.2)
    (step_of_decode q rest l (.operandMismatch q.opsel))

/-- Settles O33: by the oldest request, if there is one, and whether it is well-formed. -/
theorem stepAnswersOrRefuses : Obligations.StepAnswersOrRefuses := by
  rintro ⟨requests, l⟩
  cases requests with
  | nil => exact .inl ⟨rfl, step_of_no_request l⟩
  | cons q rest =>
    refine .inr ⟨q, rest, rfl, ?_⟩
    cases hwf : q.wellFormed with
    | true => exact .inl ⟨rfl, step_of_wellFormed q rest l hwf⟩
    | false => exact .inr ⟨rfl, step_of_not_wellFormed q rest l hwf⟩

/-! ### Reset and table words -/

/-- Settles O31: the latch holds no value after reset, so there is none to be illegal. -/
theorem resetMeetsTheLatchInvariant : Obligations.ResetMeetsTheLatchInvariant := by
  intro r h
  rw [reset_latch] at h
  cases h

theorem decode_of_decodeTableWord (nbits w : Nat) (i : Instr) (h : decodeTableWord nbits w = some i) :
    decode (tableRequest nbits w) = .ok i := by
  unfold decodeTableWord at h
  split at h
  case h_1 j hj => rw [hj, Option.some.inj h]
  case h_2 => cases h

/-- Settles O35: the word's request stands first, and taking it leaves the state it was placed in. -/
theorem tableWordIsRunNext : Obligations.TableWordIsRunNext :=
  fun s nbits w i h => step_of_decode_ok _ s.requests s.latch i (decode_of_decodeTableWord nbits w i h)

/-! ### Runs (R48, R50) -/

theorem step_encode (i : Instr) (r : Result) (rest : List Request) (l : Option Result)
    (hr : ∀ s : State, exec i s = .next { s with latch := some r }) :
    step { requests := encode i :: rest, latch := l } = .next { requests := rest, latch := some r } := by
  rw [step_of_decode_ok _ rest l i (decode_encode i), hr]

/-- Operations issued one after the other are answered one per step, and leave only a result of theirs in the latch. -/
theorem core_run_encoded (before : List Instr) (rest : List Request) (k : Nat) (l : Option Result) :
    ∃ l' : Option Result,
      Host.Core.run Sys2Proof.core (before.length + k) ({ requests := before.map encode ++ rest, latch := l } : State) =
        Host.Core.run Sys2Proof.core k ({ requests := rest, latch := l' } : State) := by
  induction before generalizing l with
  | nil => exact ⟨l, by rw [List.length_nil, Nat.zero_add]; rfl⟩
  | cons j before ih =>
    obtain ⟨r, hr⟩ := exec_answers j
    obtain ⟨l', hl'⟩ := ih (some r)
    refine ⟨l', ?_⟩
    rw [List.length_cons, Nat.succ_add]
    exact (core_run_succ _ _ _ (step_encode j r (before.map encode ++ rest) l hr)).trans hl'

/-- Settles O34: after the operations before it (`core_run_encoded`) the step of `i` does not read what they left. -/
theorem resultsComeInIssueOrder : Obligations.ResultsComeInIssueOrder := by
  intro before i after l
  obtain ⟨r, hr⟩ := exec_answers i
  obtain ⟨l', hl'⟩ := core_run_encoded before (encode i :: after) 1 l
  exact ⟨r, hr, hl'.trans (core_run_succ 0 _ _ (step_encode i r after l' hr))⟩

/-! ### The host's operation statement (R75) -/

/-- A request issued at an empty interface is the oldest one. -/
theorem step_issue_of_decode (s : State) (q : Request) (i : Instr) (hq : decode q = .ok i) (hs : s.requests = []) :
    step (s.issue q) = exec i s := by
  obtain ⟨requests, l⟩ := s
  obtain rfl : requests = [] := hs
  exact step_of_decode_ok q [] l i hq

/-- Settles O36: the literal operands resolve to themselves, the block answers in one step, and the host reads the
answer. -/
theorem hostOperationBindsOrStops : Obligations.HostOperationBindsOrStops := by
  intro op operands name h i hdecode hempty
  obtain ⟨r, hr⟩ := exec_answers i
  have hstep : step (h.block.issue ⟨op.selector, operands⟩) = .next { requests := [], latch := some r } := by
    rw [step_issue_of_decode _ _ i hdecode hempty, hr, hempty]
  have hread : State.readLatch { requests := [], latch := some r } = .next r := readLatch_of_some _ r rfl
  refine ⟨r, hr, ?_⟩
  cases r <;> simp only [hostOperation, resolve_literals, hstep, hread]

end Sys2Proof.Machine
end
